-- ==== Sys2Proof/Word.lean ====
section
/-! DEFINITION. The words the ports carry. -/

namespace Sys2Proof

/-- One byte of a frame. -/
abbrev Byte := BitVec 8

/-- A two-byte field: tags, handles, cells, robots, check words. -/
abbrev Half := BitVec 16

/-- A four-byte field: instants, stage sequences, counters, bin IDs on the wire. -/
abbrev Word := BitVec 32

/-- An eight-byte field: a set of rule indices (R200). -/
abbrev Quad := BitVec 64

end Sys2Proof
end

