-- ==== Sys2Proof/Config.lean ====
section
/-! DEFINITION. What the part fixes (its dimensions) and what the manual leaves open (the free values, which have no body). -/

namespace Sys2Proof

/-- Slots of the Handover Table (R1). -/
def Config.slots : Nat := 2048

/-- Requests an input queue holds (R192). -/
def Config.inputRoom : Nat := 16

/-- Notices a notice queue holds (R212). -/
def Config.noticeRoom : Nat := 64

/-- The live count at which CAPACITY sees an edge (R1, R214). -/
def Config.capacityMark : Nat := 1792

/-- Free value (log 8): a byte of a roster entry block for which the manual states no content, by the number of the reply
and the byte's place in it. -/
opaque Config.unstatedByte : Nat → Nat → Byte

/-- Free value (log 9): the bin ID field of a notice block whose notice holds no bin ID, by the number of the reply and
the block's place in it. -/
opaque Config.unstatedBin : Nat → Nat → Word

/-- Free value (log 10): the rank that orders the ZONE_STALE notices of one pass start, by grid clock, completed pass
count and zone. -/
opaque Config.staleRank : Nat → Nat → Nat → Nat

end Sys2Proof
end

