-- ==== Sys2Proof/Syntax.lean ====
section
/-! DEFINITION. The commands of the part: one constructor of `Instr` per row of spec/opcode_table.json, and the frame form
that requests and replies share (R189, R192, R202). -/

namespace Sys2Proof

/-- A robot link (chapter 10). -/
inductive Link where
  | a
  | b
deriving DecidableEq, Repr

/-- A message port: a robot link, or the management port. -/
inductive Port where
  | link (l : Link)
  | host
deriving DecidableEq, Repr

/-- What a request's header carries beside its kind (R189). On the management port the robot field is ignored (R191). -/
structure Hdr where
  flags : Byte
  tag : Half
  robot : Half
deriving DecidableEq, Repr

/-- A frame without its length and check, and the port it is on: what an input queue holds of a request (R192), and what a
reply is (R194). In a reply `flags` is the result code and `kind` has its reply bit set (R202). -/
structure Frame where
  port : Port
  kind : Byte
  flags : Byte
  tag : Half
  robot : Half
  body : List Byte
deriving DecidableEq, Repr

/-- One match field of a policy rule: a value and a care mask (R176). -/
structure MatchField where
  value : Byte
  care : Byte
deriving DecidableEq, Repr

/-- The nine match fields of a policy rule, in the order of the rule block (R176, R203). -/
structure MatchFields where
  point : MatchField
  cls : MatchField
  priority : MatchField
  originZone : MatchField
  targetZone : MatchField
  planned : MatchField
  overdue : MatchField
  hops : MatchField
  wave : MatchField
deriving DecidableEq, Repr

/-- The rule block as RULE-WRITE carries it (R203). -/
structure RuleBytes where
  index : Byte
  valid : Byte
  fields : MatchFields
  actions : Byte
  overrideMask : Byte
  scale : Byte
  floor : Byte
deriving DecidableEq, Repr

/-- The configuration CELL-WRITE carries (R43, R203). -/
structure CellBytes where
  column : Byte
  row : Byte
  zone : Byte
  capacity : Byte
  accept : Byte
  mode : Byte
  flags : Byte
  groups : Word
deriving DecidableEq, Repr

/-- The parameters CLASS-WRITE carries (R160, R203). -/
structure ClassBytes where
  threshold : Byte
  coefficient : Byte
  base : Byte
  budget : Half
  hopLimit : Byte
  rescue : Byte
deriving DecidableEq, Repr

/-- The commands. A request's constructor carries the link (robot requests), the header and the fields of its body as the
body tables of section 10.6 list them. The events of the part have a constructor each. -/
inductive Instr where
  | frameArrival (port : Port) (bytes : List Byte)
  | silenceTimerExpiry (l : Link)
  | declare (l : Link) (h : Hdr) (bin : Word) (cls zone plan wave priority : Byte)
  | book (l : Link) (h : Hdr) (handle cell receiver : Half)
  | unbook (l : Link) (h : Hdr) (handle : Half)
  | setdown (l : Link) (h : Hdr) (handle : Half)
  | claim (l : Link) (h : Hdr) (handle : Half)
  | seek (l : Link) (h : Hdr)
  | yieldBin (l : Link) (h : Hdr) (handle : Half)
  | takeup (l : Link) (h : Hdr) (handle : Half)
  | finish (l : Link) (h : Hdr) (handle : Half) (outcome : Byte)
  | queryBin (l : Link) (h : Hdr) (bin : Word)
  | queryCell (l : Link) (h : Hdr) (cell : Half)
  | cellWrite (h : Hdr) (cell : Half) (config : CellBytes)
  | cellDelete (h : Hdr) (cell : Half)
  | cellDrain (h : Hdr) (cell : Half) (admissions : Byte)
  | cellReopen (h : Hdr) (cell : Half)
  | robotEnrol (h : Hdr) (robot : Half) (group : Byte)
  | robotWithdraw (h : Hdr) (robot : Half)
  | robotSuspend (h : Hdr) (robot : Half)
  | robotResume (h : Hdr) (robot : Half)
  | robotRead (h : Hdr) (robot : Half)
  | missLimit (h : Hdr) (limit : Byte)
  | planWrite (h : Hdr) (plan legCount : Byte) (legs : List (Byte × Byte))
  | planClear (h : Hdr) (plan : Byte)
  | planRead (h : Hdr) (plan : Byte)
  | classWrite (h : Hdr) (cls : Byte) (params : ClassBytes)
  | classRead (h : Hdr) (cls : Byte)
  | zoneMode (h : Hdr) (zone mode : Byte)
  | zoneSense (h : Hdr) (zone : Byte) (reading : Half)
  | zoneSet (h : Hdr) (zone : Byte) (temperature : Half)
  | zoneRead (h : Hdr) (zone : Byte)
  | dwellSet (h : Hdr) (period staleLimit staleMargin : Byte)
  | ruleWrite (h : Hdr) (rule : RuleBytes)
  | ruleRead (h : Hdr) (index : Byte)
  | ruleHits (h : Hdr) (clear : Quad)
  | linkSet (h : Hdr) (selector booking claim silence : Byte)
  | linkRead (h : Hdr) (selector : Byte)
  | mode (h : Hdr) (mode : Byte)
  | status (h : Hdr)
  | lookup (h : Hdr) (selector : Byte) (value : Word)
  | scan (h : Hdr) (start : Half) (count : Byte)
  | retire (h : Hdr) (handle : Half)
  | flush (h : Hdr)
  | flushRetirement
  | reset (h : Hdr)
  | deviceReset
  | noticeRead (h : Hdr) (queue most : Byte)
  | alertRead (h : Hdr)
  | alertMask (h : Hdr) (enabled : Byte)
  | alertClear (h : Hdr) (sources : Byte)
  | counterMask (h : Hdr) (slot events unit : Byte)
  | counterRead (h : Hdr) (zone : Byte)
  | counterClear (h : Hdr) (zone : Byte)
  | deadlineReached
  | expiryTaken (n : Nat)
  | accrualPeriodExpiry
  | accrualVisit
  | overdueEvent (n : Nat)
  | gridClockAdvance
deriving DecidableEq, Repr

end Sys2Proof
end

