-- ==== Sys2Proof/WellFormed.lean ====
section
/-! DEFINITION. Which commands are well formed. Every operand is a word of its field's width, so only the body of variable
length needs a check. -/

namespace Sys2Proof

/-- A PLAN-WRITE body is 4 to 18 bytes and even (R203): it carries one to eight legs. -/
def planLegsFit (legs : List (Byte × Byte)) : Bool :=
  1 ≤ legs.length && legs.length ≤ 8

/-- A command is well formed when its request body has a length the body tables of section 10.6 allow (R191). -/
def Instr.wellFormed : Instr → Bool
  | .planWrite _ _ _ legs => planLegsFit legs
  | _ => true

end Sys2Proof
end

