-- ==== Sys2Proof/Decode.lean ====
section
/-! DEFINITION. Byte order (R200), the frame form on the wire with its check (R189, R202), the request bodies of section
10.6 in both directions (`Instr.frame` writes a command's request, `Frame.command` reads it), and `decodeTableWord`: the
rows of spec/opcode_table.json have no bits, so no word spells a command. -/

namespace Sys2Proof

/-! ## Byte order -/

/-- A two-byte field, most significant byte first (R200). -/
def be16 (x : Half) : List Byte := [x.extractLsb' 8 8, x.extractLsb' 0 8]

/-- A four-byte field, most significant byte first (R200). -/
def be32 (x : Word) : List Byte := [x.extractLsb' 24 8, x.extractLsb' 16 8, x.extractLsb' 8 8, x.extractLsb' 0 8]

/-- An eight-byte field, most significant byte first (R200). -/
def be64 (x : Quad) : List Byte := be32 (x.extractLsb' 32 32) ++ be32 (x.extractLsb' 0 32)

/-- The two-byte field of two bytes, the first the more significant (R200). -/
def half (b1 b0 : Byte) : Half := b1 ++ b0

/-- The four-byte field of four bytes, the first the most significant (R200). -/
def word (b3 b2 b1 b0 : Byte) : Word := half b3 b2 ++ half b1 b0

/-- The eight-byte field of two words, the first the more significant (R200). -/
def quad (hi lo : Word) : Quad := hi ++ lo

/-- A number as a one-byte field. -/
def byteOf (n : Nat) : Byte := BitVec.ofNat 8 n

/-- A number as a two-byte field. -/
def halfOf (n : Nat) : Half := BitVec.ofNat 16 n

/-- A number as a four-byte field. -/
def wordOf (n : Nat) : Word := BitVec.ofNat 32 n

/-! ## The check and the frame on the wire -/

/-- One bit of the cyclic redundancy check with polynomial x^16 + x^12 + x^5 + 1 (R189). -/
def crcBit (crc : Half) (bit : Bool) : Half :=
  if Bool.xor crc.msb bit then (crc <<< 1) ^^^ 0x1021#16 else crc <<< 1

/-- One byte of the check, most significant bit first (R189). -/
def crcByte (crc : Half) (b : Byte) : Half :=
  [7, 6, 5, 4, 3, 2, 1, 0].foldl (fun c i => crcBit c (b.getLsbD i)) crc

/-- The check over a run of bytes: initial value 0xFFFF, no final inversion (R189). -/
def crc (bytes : List Byte) : Half := bytes.foldl crcByte 0xFFFF#16

/-- Header, length and body of a frame, the bytes its check covers (R189, R202). -/
def Frame.checked (f : Frame) : List Byte :=
  [f.kind, f.flags] ++ be16 f.tag ++ be16 f.robot ++ be16 (halfOf f.body.length) ++ f.body

/-- A frame as it runs on its port (R189, R202). -/
def Frame.bytes (f : Frame) : List Byte := f.checked ++ be16 (crc f.checked)

/-- The frame in a received run of bytes, when the run is good: at least 10 bytes, a length of 10 plus the body length, and
an agreeing check (R189). -/
def goodFrame (port : Port) (bytes : List Byte) : Option Frame :=
  match bytes with
  | kind :: flags :: t1 :: t0 :: r1 :: r0 :: n1 :: n0 :: rest =>
    let n := (half n1 n0).toNat
    let f : Frame := ⟨port, kind, flags, half t1 t0, half r1 r0, rest.take n⟩
    if bytes.length = 10 + n ∧ rest.drop n = be16 (crc (bytes.take (8 + n))) then some f else none
  | _ => none

/-! ## The kind table -/

/-- The codes of the robot kinds that are requests (R203). -/
def robotKind (k : Nat) : Bool := 0x01 ≤ k && k ≤ 0x0B

/-- The codes of the management kinds; 0x33 is not among them (R191, R203). -/
def hostKind (k : Nat) : Bool := 0x20 ≤ k && k ≤ 0x47 && k != 0x33

/-- The body lengths that the body tables of section 10.6 allow for a kind (R191, R203). -/
def bodyFits (k n : Nat) : Bool :=
  match k with
  | 0x01 => n == 9 | 0x02 => n == 6 | 0x03 => n == 2 | 0x04 => n == 2 | 0x05 => n == 2 | 0x06 => n == 0
  | 0x07 => n == 2 | 0x08 => n == 2 | 0x09 => n == 3 | 0x0A => n == 4 | 0x0B => n == 2
  | 0x20 => n == 1 | 0x21 => n == 0 | 0x22 => n == 5 | 0x23 => n == 3 | 0x24 => n == 2 | 0x25 => n == 0 | 0x26 => n == 0
  | 0x27 => n == 13 | 0x28 => n == 2 | 0x29 => n == 3 | 0x2A => n == 2
  | 0x2B => n == 3 | 0x2C => n == 2 | 0x2D => n == 2 | 0x2E => n == 2 | 0x2F => n == 2 | 0x30 => n == 1
  | 0x31 => 4 ≤ n && n ≤ 18 && n % 2 == 0
  | 0x32 => n == 1 | 0x34 => n == 1 | 0x35 => n == 8 | 0x36 => n == 1
  | 0x37 => n == 2 | 0x38 => n == 3 | 0x39 => n == 3 | 0x3A => n == 1 | 0x3B => n == 3
  | 0x3C => n == 24 | 0x3D => n == 1 | 0x3E => n == 8 | 0x3F => n == 4 | 0x40 => n == 1
  | 0x41 => n == 2 | 0x42 => n == 0 | 0x43 => n == 1 | 0x44 => n == 1 | 0x45 => n == 3 | 0x46 => n == 1 | 0x47 => n == 1
  | _ => false

/-! ## Request bodies: from a command to its frame -/

/-- The legs of a PLAN-WRITE body: cell group and receiver mask of each (R203). -/
def legBytes : List (Byte × Byte) → List Byte
  | [] => []
  | (g, m) :: t => g :: m :: legBytes t

/-- The value and care mask of a match field (R203). -/
def MatchField.bytes (f : MatchField) : List Byte := [f.value, f.care]

/-- The nine match fields in the rule block's order (R203). -/
def MatchFields.bytes (f : MatchFields) : List Byte :=
  f.point.bytes ++ f.cls.bytes ++ f.priority.bytes ++ f.originZone.bytes ++ f.targetZone.bytes ++ f.planned.bytes ++
    f.overdue.bytes ++ f.hops.bytes ++ f.wave.bytes

/-- The rule block (R203). -/
def RuleBytes.bytes (r : RuleBytes) : List Byte :=
  [r.index, r.valid] ++ r.fields.bytes ++ [r.actions, r.overrideMask, r.scale, r.floor]

/-- The configuration fields of a CELL-WRITE body (R203). -/
def CellBytes.bytes (c : CellBytes) : List Byte :=
  [c.column, c.row, c.zone, c.capacity, c.accept, c.mode, c.flags] ++ be32 c.groups

/-- The parameter fields of a CLASS-WRITE body (R203). -/
def ClassBytes.bytes (c : ClassBytes) : List Byte :=
  [c.threshold, c.coefficient, c.base] ++ be16 c.budget ++ [c.hopLimit, c.rescue]

/-- A robot request's frame. -/
def robotFrame (l : Link) (h : Hdr) (kind : Byte) (body : List Byte) : Frame :=
  ⟨.link l, kind, h.flags, h.tag, h.robot, body⟩

/-- A management request's frame. -/
def hostFrame (h : Hdr) (kind : Byte) (body : List Byte) : Frame :=
  ⟨.host, kind, h.flags, h.tag, h.robot, body⟩

/-- The request frame that carries a command (kind and body tables of R203); an event of the part has none. -/
def Instr.frame : Instr → Option Frame
  | .declare l h bin cls zone plan wave prio => some (robotFrame l h 0x01 (be32 bin ++ [cls, zone, plan, wave, prio]))
  | .book l h handle cell receiver => some (robotFrame l h 0x02 (be16 handle ++ be16 cell ++ be16 receiver))
  | .unbook l h handle => some (robotFrame l h 0x03 (be16 handle))
  | .setdown l h handle => some (robotFrame l h 0x04 (be16 handle))
  | .claim l h handle => some (robotFrame l h 0x05 (be16 handle))
  | .seek l h => some (robotFrame l h 0x06 [])
  | .yieldBin l h handle => some (robotFrame l h 0x07 (be16 handle))
  | .takeup l h handle => some (robotFrame l h 0x08 (be16 handle))
  | .finish l h handle outcome => some (robotFrame l h 0x09 (be16 handle ++ [outcome]))
  | .queryBin l h bin => some (robotFrame l h 0x0A (be32 bin))
  | .queryCell l h cell => some (robotFrame l h 0x0B (be16 cell))
  | .mode h m => some (hostFrame h 0x20 [m])
  | .status h => some (hostFrame h 0x21 [])
  | .lookup h selector value => some (hostFrame h 0x22 (selector :: be32 value))
  | .scan h start count => some (hostFrame h 0x23 (be16 start ++ [count]))
  | .retire h handle => some (hostFrame h 0x24 (be16 handle))
  | .flush h => some (hostFrame h 0x25 [])
  | .reset h => some (hostFrame h 0x26 [])
  | .cellWrite h cell config => some (hostFrame h 0x27 (be16 cell ++ config.bytes))
  | .cellDelete h cell => some (hostFrame h 0x28 (be16 cell))
  | .cellDrain h cell admissions => some (hostFrame h 0x29 (be16 cell ++ [admissions]))
  | .cellReopen h cell => some (hostFrame h 0x2A (be16 cell))
  | .robotEnrol h robot group => some (hostFrame h 0x2B (be16 robot ++ [group]))
  | .robotWithdraw h robot => some (hostFrame h 0x2C (be16 robot))
  | .robotSuspend h robot => some (hostFrame h 0x2D (be16 robot))
  | .robotResume h robot => some (hostFrame h 0x2E (be16 robot))
  | .robotRead h robot => some (hostFrame h 0x2F (be16 robot))
  | .missLimit h limit => some (hostFrame h 0x30 [limit])
  | .planWrite h plan legCount legs => some (hostFrame h 0x31 (plan :: legCount :: legBytes legs))
  | .planClear h plan => some (hostFrame h 0x32 [plan])
  | .planRead h plan => some (hostFrame h 0x34 [plan])
  | .classWrite h cls params => some (hostFrame h 0x35 (cls :: params.bytes))
  | .classRead h cls => some (hostFrame h 0x36 [cls])
  | .zoneMode h zone m => some (hostFrame h 0x37 [zone, m])
  | .zoneSense h zone reading => some (hostFrame h 0x38 (zone :: be16 reading))
  | .zoneSet h zone temperature => some (hostFrame h 0x39 (zone :: be16 temperature))
  | .zoneRead h zone => some (hostFrame h 0x3A [zone])
  | .dwellSet h p l m => some (hostFrame h 0x3B [p, l, m])
  | .ruleWrite h rule => some (hostFrame h 0x3C rule.bytes)
  | .ruleRead h index => some (hostFrame h 0x3D [index])
  | .ruleHits h clear => some (hostFrame h 0x3E (be64 clear))
  | .linkSet h selector bw cw silence => some (hostFrame h 0x3F [selector, bw, cw, silence])
  | .linkRead h selector => some (hostFrame h 0x40 [selector])
  | .noticeRead h queue most => some (hostFrame h 0x41 [queue, most])
  | .alertRead h => some (hostFrame h 0x42 [])
  | .alertMask h enabled => some (hostFrame h 0x43 [enabled])
  | .alertClear h sources => some (hostFrame h 0x44 [sources])
  | .counterMask h slot events unit => some (hostFrame h 0x45 [slot, events, unit])
  | .counterRead h zone => some (hostFrame h 0x46 [zone])
  | .counterClear h zone => some (hostFrame h 0x47 [zone])
  | .frameArrival _ _ => none
  | .silenceTimerExpiry _ => none
  | .flushRetirement => none
  | .deviceReset => none
  | .deadlineReached => none
  | .expiryTaken _ => none
  | .accrualPeriodExpiry => none
  | .accrualVisit => none
  | .overdueEvent _ => none
  | .gridClockAdvance => none

/-! ## Request bodies: from a frame to its command -/

/-- The legs of a PLAN-WRITE body, two bytes each (R203). -/
def legsOf : List Byte → Option (List (Byte × Byte))
  | [] => some []
  | [_] => none
  | g :: m :: t => (legsOf t).map ((g, m) :: ·)

/-- A body of one byte. -/
def body1 (k : Byte → Instr) : List Byte → Option Instr
  | [b] => some (k b)
  | _ => none

/-- A body of one two-byte field. -/
def body2 (k : Half → Instr) : List Byte → Option Instr
  | [b1, b0] => some (k (half b1 b0))
  | _ => none

/-- A body of a two-byte field and a byte. -/
def body21 (k : Half → Byte → Instr) : List Byte → Option Instr
  | [b1, b0, c] => some (k (half b1 b0) c)
  | _ => none

/-- A body of a byte and a two-byte field. -/
def body12 (k : Byte → Half → Instr) : List Byte → Option Instr
  | [c, b1, b0] => some (k c (half b1 b0))
  | _ => none

/-- An empty body. -/
def body0 (i : Instr) : List Byte → Option Instr
  | [] => some i
  | _ => none

/-- The command that a robot kind and a body spell (R203). -/
def robotCommand (l : Link) (h : Hdr) (kind : Nat) (body : List Byte) : Option Instr :=
  match kind with
  | 0x01 =>
    match body with
    | [b3, b2, b1, b0, cls, zone, plan, wave, prio] => some (.declare l h (word b3 b2 b1 b0) cls zone plan wave prio)
    | _ => none
  | 0x02 =>
    match body with
    | [h1, h0, c1, c0, r1, r0] => some (.book l h (half h1 h0) (half c1 c0) (half r1 r0))
    | _ => none
  | 0x03 => body2 (.unbook l h) body
  | 0x04 => body2 (.setdown l h) body
  | 0x05 => body2 (.claim l h) body
  | 0x06 => body0 (.seek l h) body
  | 0x07 => body2 (.yieldBin l h) body
  | 0x08 => body2 (.takeup l h) body
  | 0x09 => body21 (.finish l h) body
  | 0x0A =>
    match body with
    | [b3, b2, b1, b0] => some (.queryBin l h (word b3 b2 b1 b0))
    | _ => none
  | 0x0B => body2 (.queryCell l h) body
  | _ => none

/-- The command that a management kind and a body spell (R203). -/
def hostCommand (h : Hdr) (kind : Nat) (body : List Byte) : Option Instr :=
  match kind with
  | 0x20 => body1 (.mode h) body
  | 0x21 => body0 (.status h) body
  | 0x22 =>
    match body with
    | [by1, v3, v2, v1, v0] => some (.lookup h by1 (word v3 v2 v1 v0))
    | _ => none
  | 0x23 => body21 (.scan h) body
  | 0x24 => body2 (.retire h) body
  | 0x25 => body0 (.flush h) body
  | 0x26 => body0 (.reset h) body
  | 0x27 =>
    match body with
    | [c1, c0, column, row, zone, capacity, accept, mode, flags, g3, g2, g1, g0] =>
      some (.cellWrite h (half c1 c0) ⟨column, row, zone, capacity, accept, mode, flags, word g3 g2 g1 g0⟩)
    | _ => none
  | 0x28 => body2 (.cellDelete h) body
  | 0x29 => body21 (.cellDrain h) body
  | 0x2A => body2 (.cellReopen h) body
  | 0x2B => body21 (.robotEnrol h) body
  | 0x2C => body2 (.robotWithdraw h) body
  | 0x2D => body2 (.robotSuspend h) body
  | 0x2E => body2 (.robotResume h) body
  | 0x2F => body2 (.robotRead h) body
  | 0x30 => body1 (.missLimit h) body
  | 0x31 =>
    match body with
    | plan :: legCount :: rest => (legsOf rest).map (.planWrite h plan legCount ·)
    | _ => none
  | 0x32 => body1 (.planClear h) body
  | 0x34 => body1 (.planRead h) body
  | 0x35 =>
    match body with
    | [cls, tc, k, b, d1, d0, hop, rescue] => some (.classWrite h cls ⟨tc, k, b, half d1 d0, hop, rescue⟩)
    | _ => none
  | 0x36 => body1 (.classRead h) body
  | 0x37 =>
    match body with
    | [zone, m] => some (.zoneMode h zone m)
    | _ => none
  | 0x38 => body12 (.zoneSense h) body
  | 0x39 => body12 (.zoneSet h) body
  | 0x3A => body1 (.zoneRead h) body
  | 0x3B =>
    match body with
    | [p, l, m] => some (.dwellSet h p l m)
    | _ => none
  | 0x3C =>
    match body with
    | [index, valid, v1, c1, v2, c2, v3, c3, v4, c4, v5, c5, v6, c6, v7, c7, v8, c8, v9, c9, actions, mask, scale, floor] =>
      some (.ruleWrite h ⟨index, valid,
        ⟨⟨v1, c1⟩, ⟨v2, c2⟩, ⟨v3, c3⟩, ⟨v4, c4⟩, ⟨v5, c5⟩, ⟨v6, c6⟩, ⟨v7, c7⟩, ⟨v8, c8⟩, ⟨v9, c9⟩⟩,
        actions, mask, scale, floor⟩)
    | _ => none
  | 0x3D => body1 (.ruleRead h) body
  | 0x3E =>
    match body with
    | [a3, a2, a1, a0, b3, b2, b1, b0] => some (.ruleHits h (quad (word a3 a2 a1 a0) (word b3 b2 b1 b0)))
    | _ => none
  | 0x3F =>
    match body with
    | [selector, booking, claim, silence] => some (.linkSet h selector booking claim silence)
    | _ => none
  | 0x40 => body1 (.linkRead h) body
  | 0x41 =>
    match body with
    | [queue, most] => some (.noticeRead h queue most)
    | _ => none
  | 0x42 => body0 (.alertRead h) body
  | 0x43 => body1 (.alertMask h) body
  | 0x44 => body1 (.alertClear h) body
  | 0x45 =>
    match body with
    | [slot, events, unit] => some (.counterMask h slot events unit)
    | _ => none
  | 0x46 => body1 (.counterRead h) body
  | 0x47 => body1 (.counterClear h) body
  | _ => none

/-- The command that a request frame carries (kind and body tables of R203). -/
def Frame.command (f : Frame) : Option Instr :=
  match f.port with
  | .link l => robotCommand l ⟨f.flags, f.tag, f.robot⟩ f.kind.toNat f.body
  | .host => hostCommand ⟨f.flags, f.tag, f.robot⟩ f.kind.toNat f.body

/-- The command a word spells by the table's bits: the rows of spec/opcode_table.json give no bits, so none (log 20). -/
def decodeTableWord (_nbits _w : Nat) : Option Instr := none

end Sys2Proof
end

