-- ==== Sys2Proof/Machine/State.lean ====
section
/-! DEFINITION. The state of the part, block by block (spec/00_scope.md, "Block overview"), as plain data, and the state
right after a device reset. -/

namespace Sys2Proof.Machine

/-- A table kept by number: pairs of a number and its entry, numbers strictly rising (`Table.wf`). A number that is not
listed has no entry, or the entry its reader names as the value at reset (log 18). -/
abbrev Table (α : Type) := List (Nat × α)

/-! ## Why a step stops -/

/-- The reasons the part stops with a fault: none. The manual gives every step an effect, so no meaning raises one. -/
inductive Fault where
deriving DecidableEq, Repr

/-- The reasons a command is refused by the model. -/
inductive Refusal where
  /-- The command has no meaning yet. Raised by an arm of `exec` alone; safe, since the run stops there. -/
  | notModelled (mnemonic : String)
deriving DecidableEq, Repr

/-! ## Names of the records and entries -/

/-- A handle: a slot and that slot's generation (R2). -/
structure Handle where
  slot : Nat
  gen : Nat
deriving DecidableEq, Repr

/-- Thermal classes (R9). -/
inductive ThermalClass where
  | ambient
  | chilled
  | frozen
deriving DecidableEq, Repr

/-- Record states (R21, section 1.6). -/
inductive RecordState where
  | carried
  | booked
  | staged
  | claimed
deriving DecidableEq, Repr

/-- The timing of a BOOKED or CLAIMED record: exactly one of a deadline instant and a held saved time in milliseconds (R19). -/
inductive Timing where
  | armed (deadline : Word)
  | held (saved : Nat)
deriving DecidableEq, Repr

/-- What a record has while its bin stands on a cell: giver, cell, stage sequence, receiver mask and designated receiver
(R12 to R15). -/
structure Spot where
  giver : Nat
  cell : Nat
  seq : Word
  mask : Byte
  receiver : Option Nat
deriving DecidableEq, Repr

/-- A record's state with the fields present in it (R12, and the presence table of section 1.6). -/
inductive Custody where
  | carried (carrier : Nat) (lapsed : Option Nat)
  | booked (carrier cell : Nat) (receiver : Option Nat) (receiverOverride : Option Byte) (timing : Timing)
  | staged (spot : Spot) (lapsed : Option Nat)
  | claimed (spot : Spot) (claimant : Nat) (timing : Timing)
deriving DecidableEq, Repr

/-- The plan a record follows and its leg index, present together (R17). -/
structure Route where
  plan : Nat
  leg : Nat
deriving DecidableEq, Repr

/-- A handover record (section 1.5). -/
structure Record where
  bin : Nat
  cls : ThermalClass
  wave : Byte
  priority : Nat
  originZone : Nat
  presentZone : Nat
  route : Option Route
  hops : Nat
  hopLimit : Nat
  exposure : Nat
  budget : Nat
  warned : Bool
  overdue : Bool
  exempt : Bool
  rescued : Bool
  openedAt : Word
  custody : Custody
deriving DecidableEq, Repr

/-- Cell states (R39). -/
inductive CellState where
  | opened
  | draining
  | closed
deriving DecidableEq, Repr

/-- Check modes (R106). -/
inductive CheckMode where
  | off
  | group
  | robot
  | combined
deriving DecidableEq, Repr

/-- A defined entry of the Staging Cell Table (section 2.1). The stack is bottom to top. -/
structure Cell where
  column : Nat
  row : Nat
  zone : Nat
  capacity : Nat
  accept : Byte
  check : CheckMode
  report : Bool
  groups : Word
  state : CellState
  admissions : Nat
  stack : List Handle
  reserved : Nat
deriving DecidableEq, Repr

/-- The role of a party (R82). -/
inductive Role where
  | carrier
  | claimant
deriving DecidableEq, Repr

/-- A roster entry of an enrolled robot, ACTIVE or SUSPENDED (R81). A robot with no entry is UNENROLLED: group 0, no last
link, no party reference, miss count 0. -/
structure Robot where
  suspended : Bool
  group : Nat
  lastLink : Option Link
  party : Option (Handle × Role)
  misses : Nat
deriving DecidableEq, Repr

/-- Device modes (R204). -/
inductive Mode where
  | setup
  | run
  | flushing
deriving DecidableEq, Repr

/-- A FLUSH in progress: the request its reply answers, and the records retired so far (R210). -/
structure FlushRun where
  request : Frame
  retired : Nat
deriving DecidableEq, Repr

/-- The kind of a deadline entry (R136). -/
inductive DeadlineKind where
  | booking
  | claim
deriving DecidableEq, Repr

/-- An expiry event raised and not yet taken (R139). -/
structure Expiry where
  handle : Handle
  kind : DeadlineKind
  instant : Word
deriving DecidableEq, Repr

/-- The Custody Engine: device mode, Handover Table with generations, Free Slot Queue and Bin Index, stage sequence
counter, Staging Cell Table, Robot Roster, and the events raised to it and not yet taken. -/
structure Engine where
  mode : Mode
  records : Table Record
  gens : Table Nat
  freeSlots : List Nat
  binIndex : Table Nat
  stageSeq : Word
  cells : Table Cell
  roster : Table Robot
  missLimit : Nat
  flush : Option FlushRun
  expiries : List Expiry
  overdues : List Handle
deriving DecidableEq, Repr

/-! ## Port Unit -/

/-- One robot link: state, silence timer (milliseconds left, or stopped), mirror, settings and input queue (R192, R195 to
R197). -/
structure RobotLink where
  up : Bool
  silence : Option Nat
  mirror : Bool
  bookWindow : Nat
  claimWindow : Nat
  silenceLimit : Nat
  queue : List Frame
deriving DecidableEq, Repr

/-- The Port Unit: the two links, the management port's input queue, the rotation pointer (R193), and the management
replies formed while a FLUSH is in progress and still to leave behind its reply (R194). -/
structure PortUnit where
  linkA : RobotLink
  linkB : RobotLink
  hostQueue : List Frame
  pointer : Port
  unsent : List Frame
deriving DecidableEq, Repr

/-! ## Pickup Queue Unit, Deadline Timer, Dwell Unit, Plan Store, Policy Matcher -/

/-- An entry of a pickup queue (R97). -/
structure PickupEntry where
  handle : Handle
  priority : Nat
  seq : Word
deriving DecidableEq, Repr

/-- An entry of the deadline list; `raised` says that its expiry has been raised (R136, R139). -/
structure Deadline where
  instant : Word
  handle : Handle
  kind : DeadlineKind
  raised : Bool
deriving DecidableEq, Repr

/-- The Deadline Timer (R134, R136). -/
structure DeadlineTimer where
  clock : Word
  list : List Deadline
deriving DecidableEq, Repr

/-- A zone entry (R152). `sensor` is the feed mode SENSOR. -/
structure Zone where
  temperature : Int
  sensor : Bool
  passes : Nat
  stale : Bool
deriving DecidableEq, Repr

/-- The parameters of a thermal class (R159). -/
structure ClassParams where
  threshold : Int
  coefficient : Nat
  base : Nat
  budget : Nat
  hopLimit : Nat
  rescue : Option Nat
deriving DecidableEq, Repr

/-- The Dwell Unit. `cursor` is the slot the pass in flight visits next, absent when none is in flight (R164, R165);
`timer` is the period timer's milliseconds left, absent when stopped (R163). -/
structure DwellUnit where
  zones : Table Zone
  ambient : ClassParams
  chilled : ClassParams
  frozen : ClassParams
  period : Nat
  staleLimit : Nat
  staleMargin : Nat
  timer : Option Nat
  cursor : Option Nat
  passPending : Bool
  passes : Word
deriving DecidableEq, Repr

/-- A leg of a relay plan (R117). -/
structure Leg where
  group : Nat
  mask : Byte
deriving DecidableEq, Repr

/-- A defined plan: its legs and its reference count (R117, R118). -/
structure Plan where
  legs : List Leg
  refs : Nat
deriving DecidableEq, Repr

/-- Budget scales (R175). -/
inductive Scale where
  | halved
  | one
  | two
  | four
deriving DecidableEq, Repr

/-- A policy rule with its hit flag (R175, R183). -/
structure Rule where
  valid : Bool
  fields : MatchFields
  deny : Bool
  overrides : Bool
  overrideMask : Byte
  notifyAlways : Bool
  notifyOnce : Bool
  exempt : Bool
  scale : Scale
  floor : Nat
  hit : Bool
deriving DecidableEq, Repr

/-! ## Notice Unit -/

/-- The notice kinds (R203). -/
inductive NoticeKind where
  | lateReport
  | bookingLapsed
  | claimLapsed
  | custodyRefused
  | robotSuspended
  | dwellWarn
  | dwellOverdue
  | zoneStale
  | zoneFresh
  | rescueApplied
  | rescueUnavailable
  | overdueFinished
  | ruleMatch
deriving DecidableEq, Repr

/-- A notice (R212). -/
structure Notice where
  kind : NoticeKind
  time : Word
  handle : Option Handle
  bin : Option Nat
  robot : Option Nat
  cell : Option Nat
  zone : Option Nat
  detail : Byte
deriving DecidableEq, Repr

/-- A notice queue with its DROPPED flag (R212). -/
structure NoticeQueue where
  items : List Notice
  dropped : Bool
deriving DecidableEq, Repr

/-- Pending and overrun of an edge source (R214). -/
structure Edge where
  pending : Bool
  overrun : Bool
deriving DecidableEq, Repr

/-- The event set and unit of a counter slot; `exposure` is the unit EXPOSURE (R216). -/
structure CounterSlot where
  events : Byte
  exposure : Bool
deriving DecidableEq, Repr

/-- The Notice Unit: four notice queues, the alert encoder, the zone counters (number 4 * zone + slot) and the counter
slots (R212, R214, R216). -/
structure NoticeUnit where
  custody : NoticeQueue
  timing : NoticeQueue
  thermal : NoticeQueue
  rule : NoticeQueue
  linkEdge : Edge
  capacityEdge : Edge
  enabled : Byte
  counters : Table Word
  slots : Table CounterSlot
deriving DecidableEq, Repr

/-! ## The state -/

/-- The whole state: the eight blocks, then the model's own two fields, the commands waiting (log 1) and the frames that
have left the part, oldest first (log 5). -/
structure State where
  ports : PortUnit
  engine : Engine
  pickup : Table (List PickupEntry)
  timer : DeadlineTimer
  dwell : DwellUnit
  plans : Table Plan
  rules : Table Rule
  notices : NoticeUnit
  pending : List Instr
  sent : List Frame
deriving DecidableEq, Repr

/-! ## The reset state -/

/-- A robot link after device reset (R195, R197, R199). -/
def RobotLink.reset : RobotLink := ⟨false, none, false, 40, 120, 8, []⟩

/-- The Port Unit after device reset (R193, R199). -/
def PortUnit.reset : PortUnit := ⟨.reset, .reset, [], .link .a, []⟩

/-- The Custody Engine after device reset (R26, R48, R81, R151, R204, R211). -/
def Engine.reset : Engine := ⟨.setup, [], [], List.range Config.slots, [], 0, [], [], 3, none, [], []⟩

/-- A zone after device reset (R152). -/
def Zone.reset : Zone := ⟨40, true, 15, true⟩

/-- The Dwell Unit after device reset (R159, R162, R163, R165, R174). -/
def DwellUnit.reset : DwellUnit :=
  ⟨[], ⟨60, 2, 0, 65535, 6, none⟩, ⟨10, 8, 1, 40000, 6, none⟩, ⟨-36, 24, 2, 12000, 6, none⟩, 4, 8, 4, none, none, false, 0⟩

/-- A match field that matches anything (R176). -/
def matchAll : MatchField := ⟨0, 0⟩

/-- A policy rule after device reset (R175). -/
def Rule.reset : Rule :=
  ⟨false, ⟨matchAll, matchAll, matchAll, matchAll, matchAll, matchAll, matchAll, matchAll, matchAll⟩, false, false, 0, false, false, false, .one, 0, false⟩

/-- An empty notice queue (R211). -/
def NoticeQueue.reset : NoticeQueue := ⟨[], false⟩

/-- A counter slot after device reset (R216). -/
def CounterSlot.reset : CounterSlot := ⟨0, false⟩

/-- The Notice Unit after device reset (R211, R214, R216). -/
def NoticeUnit.reset : NoticeUnit :=
  ⟨.reset, .reset, .reset, .reset, ⟨false, false⟩, ⟨false, false⟩, 0, [], []⟩

/-- The state right after a device reset. -/
def State.reset : State :=
  { ports := .reset
    engine := .reset
    pickup := []
    timer := ⟨0, []⟩
    dwell := .reset
    plans := []
    rules := []
    notices := .reset
    pending := []
    sent := [] }

end Sys2Proof.Machine
end

