-- ==== Sys2Proof/Machine/Table.lean ====
section
/-! DEFINITION. Reading and writing the tables that are kept by number (log 18). -/

namespace Sys2Proof.Machine

/-- The entry of a number, if the table lists one. -/
def Table.look {α : Type} : Table α → Nat → Option α
  | [], _ => none
  | (k, v) :: t, n => if k = n then some v else Table.look t n

/-- The entry of a number, or the entry that an unlisted number has. -/
def Table.lookD {α : Type} (d : α) (t : Table α) (n : Nat) : α :=
  (Table.look t n).getD d

/-- Write the entry of a number, keeping the numbers rising. -/
def Table.put {α : Type} : Table α → Nat → α → Table α
  | [], n, v => [(n, v)]
  | (k, w) :: t, n, v =>
    if n < k then (n, v) :: (k, w) :: t
    else if n = k then (n, v) :: t
    else (k, w) :: Table.put t n v

/-- Remove the entry of a number. -/
def Table.del {α : Type} (t : Table α) (n : Nat) : Table α :=
  t.filter fun p => p.1 ≠ n

/-- Write the entry of a number in a table whose unlisted numbers have the entry `d`: writing `d` unlists it. -/
def Table.putD {α : Type} [DecidableEq α] (d : α) (t : Table α) (n : Nat) (v : α) : Table α :=
  if v = d then Table.del t n else Table.put t n v

/-- The canonical form: numbers strictly rising. -/
def Table.wf {α : Type} : Table α → Bool
  | [] => true
  | [_] => true
  | p :: q :: t => p.1 < q.1 && Table.wf (q :: t)

end Sys2Proof.Machine
end

