-- ==== Sys2Proof/Machine/Operands.lean ====
section
/-! DEFINITION. Field encodings (R200): handles, sets, enumerations and absent values, and the result codes (R203). -/

namespace Sys2Proof.Machine

/-- The results of a request (R203). -/
inductive Result where
  | ok | none | busy | notReady | unknownKind | badField | notPermitted | unknownRobot | suspended | robotBusy
  | staleHandle | notParty | wrongState | duplicate | tableFull | badPlan | cellUnknown | cellClosed | cellFull
  | notInLeg | hopLimit | policy | buried | coversClaim | custody | late | mode | cellBusy | planInUse | inCustody
  | notEmpty
deriving DecidableEq, Repr

/-- The result codes (R203). -/
def Result.code : Result → Byte
  | .ok => 0 | .none => 1 | .busy => 2 | .notReady => 3 | .unknownKind => 4 | .badField => 5 | .notPermitted => 6
  | .unknownRobot => 7 | .suspended => 8 | .robotBusy => 9 | .staleHandle => 10 | .notParty => 11 | .wrongState => 12
  | .duplicate => 13 | .tableFull => 14 | .badPlan => 15 | .cellUnknown => 16 | .cellClosed => 17 | .cellFull => 18
  | .notInLeg => 19 | .hopLimit => 20 | .policy => 21 | .buried => 22 | .coversClaim => 23 | .custody => 24
  | .late => 25 | .mode => 26 | .cellBusy => 27 | .planInUse => 28 | .inCustody => 29 | .notEmpty => 30

/-! ## Handles and absent values -/

/-- A handle field: slot in bits 0 to 10, generation in bits 11 to 14 (R200). -/
def Handle.wire (h : Handle) : Half := halfOf (h.slot + 2048 * h.gen)

/-- The handle a received field names, when its top bit is zero (R2, R200). -/
def Handle.ofWire (raw : Half) : Option Handle :=
  if raw.toNat < 32768 then some ⟨raw.toNat % 2048, raw.toNat / 2048⟩ else none

/-- An optional handle; absent is 0xFFFF (R200). -/
def handleField : Option Handle → List Byte
  | some h => be16 h.wire
  | none => be16 0xFFFF#16

/-- An optional cell; absent is 0xFFFF (R200). -/
def cellField : Option Nat → List Byte
  | some n => be16 (halfOf n)
  | none => be16 0xFFFF#16

/-- An optional robot; absent is 0 (R200). -/
def robotField (r : Option Nat) : List Byte := be16 (halfOf (r.getD 0))

/-- An optional stack position, leg index, cell group or plan; absent is 255 (R200). -/
def smallField (n : Option Nat) : Byte := byteOf (n.getD 255)

/-- An optional receiver mask or override; absent is 0 (R200). -/
def maskField (m : Option Byte) : Byte := m.getD 0

/-- A robot field that names a robot, 0 standing for none (R59). -/
def robotOrNone (n : Nat) : Option Nat := if n = 0 then none else some n

/-! ## Enumerations -/

def RecordState.code : RecordState → Byte
  | .carried => 0 | .booked => 1 | .staged => 2 | .claimed => 3

def ThermalClass.code : ThermalClass → Byte
  | .ambient => 0 | .chilled => 1 | .frozen => 2

/-- The class a byte names, if it names one (R200). -/
def ThermalClass.ofByte (b : Byte) : Option ThermalClass :=
  if b = 0 then some .ambient else if b = 1 then some .chilled else if b = 2 then some .frozen else none

def CellState.code : CellState → Byte
  | .opened => 0 | .draining => 1 | .closed => 2

def CheckMode.code : CheckMode → Byte
  | .off => 0 | .group => 1 | .robot => 2 | .combined => 3

/-- The check mode a byte names, if it names one (R200). -/
def CheckMode.ofByte (b : Byte) : Option CheckMode :=
  if b = 0 then some .off else if b = 1 then some .group else if b = 2 then some .robot
  else if b = 3 then some .combined else none

def linkCode : Link → Byte
  | .a => 0 | .b => 1

/-- A last link; none is 255 (R200). -/
def lastLinkCode : Option Link → Byte
  | some l => linkCode l
  | none => 255

def Mode.code : Mode → Byte
  | .setup => 0 | .run => 1 | .flushing => 2

/-- The feed mode: SENSOR 0, MANUAL 1 (R200). -/
def feedCode (sensor : Bool) : Byte := if sensor then 0 else 1

/-- The robot state: UNENROLLED 0, ACTIVE 1, SUSPENDED 2 (R200). -/
def robotStateCode : Option Robot → Byte
  | none => 0
  | some r => if r.suspended then 2 else 1

/-- The role of a roster entry block: 0 carrier, 1 claimant, 255 none (R203). -/
def roleCode : Option Role → Byte
  | some .carrier => 0
  | some .claimant => 1
  | none => 255

def Scale.code : Scale → Byte
  | .halved => 0 | .one => 1 | .two => 2 | .four => 3

/-- The budget scale a byte names, if it names one (R200). -/
def Scale.ofByte (b : Byte) : Option Scale :=
  if b = 0 then some .halved else if b = 1 then some .one else if b = 2 then some .two else if b = 3 then some .four
  else none

/-- The links a selector writes and the link it reports: A, B, or BOTH, which reports link B (R198 to R200). -/
def selectorOf (b : Byte) : Option (List Link × Link) :=
  if b = 0 then some ([.a], .a) else if b = 1 then some ([.b], .b) else if b = 2 then some ([.a, .b], .b) else none

/-- The notice queues. -/
inductive QueueId where
  | custody | timing | thermal | rule
deriving DecidableEq, Repr

/-- The notice queue a byte names, if it names one (R200). -/
def QueueId.ofByte (b : Byte) : Option QueueId :=
  if b = 0 then some .custody else if b = 1 then some .timing else if b = 2 then some .thermal
  else if b = 3 then some .rule else none

def NoticeKind.code : NoticeKind → Byte
  | .lateReport => 1 | .bookingLapsed => 2 | .claimLapsed => 3 | .custodyRefused => 4 | .robotSuspended => 5
  | .dwellWarn => 6 | .dwellOverdue => 7 | .zoneStale => 8 | .zoneFresh => 9 | .rescueApplied => 10
  | .rescueUnavailable => 11 | .overdueFinished => 12 | .ruleMatch => 13

/-- The counter events (R216). -/
inductive EventKind where
  | staged | lifted | claimRefused | claimLapsed | bookingLapsed | overdue | closed | accrual
deriving DecidableEq, Repr

/-- The place of a counter event in a set (R200). -/
def EventKind.bit : EventKind → Nat
  | .staged => 0 | .lifted => 1 | .claimRefused => 2 | .claimLapsed => 3 | .bookingLapsed => 4 | .overdue => 5
  | .closed => 6 | .accrual => 7

/-- A signed number in one byte, two's complement (R200). -/
def signedByte (t : Int) : Byte := BitVec.ofInt 8 t

end Sys2Proof.Machine
end

