-- ==== Sys2Proof/Machine/Flags.lean ====
section
/-! DEFINITION. Flag bytes (R201), and the alert encoder's pending, overrun and enabled sets with the alert line (R214). -/

namespace Sys2Proof.Machine

/-- A flag byte: the flags from bit 0 upward, the other bits 0 (R201). -/
def flagByte : List Bool → Byte
  | [] => 0
  | b :: t => (flagByte t <<< 1) ||| (if b then 1 else 0)

/-- A single flag as a byte. -/
def boolByte (b : Bool) : Byte := flagByte [b]

/-- A received flag byte's flag in bit i; the bits that are not listed are ignored (R201; that the valid byte of a rule block is
read so is log 12). -/
def flagAt (b : Byte) (i : Nat) : Bool := b.getLsbD i

/-- The queue sources' pending state: the queue holds a notice (R214). -/
def NoticeQueue.pending (q : NoticeQueue) : Bool := !q.items.isEmpty

/-- The pending set, from priority 0: LINK, THERMAL, TIMING, CUSTODY, RULE, CAPACITY (R214). -/
def NoticeUnit.pendingSet (u : NoticeUnit) : Byte :=
  flagByte [u.linkEdge.pending, u.thermal.pending, u.timing.pending, u.custody.pending, u.rule.pending,
    u.capacityEdge.pending]

/-- The overrun set: an edge source's overrun flag, a queue source's DROPPED flag (R214). -/
def NoticeUnit.overrunSet (u : NoticeUnit) : Byte :=
  flagByte [u.linkEdge.overrun, u.thermal.dropped, u.timing.dropped, u.custody.dropped, u.rule.dropped,
    u.capacityEdge.overrun]

/-- The alert line: asserted while a source is both pending and enabled (R214). -/
def NoticeUnit.line (u : NoticeUnit) : Bool := (u.pendingSet &&& u.enabled) != 0

/-- The highest-priority source that is pending and enabled, or 255 (R215). -/
def NoticeUnit.highest (u : NoticeUnit) : Byte :=
  match [0, 1, 2, 3, 4, 5].find? (fun i => (u.pendingSet &&& u.enabled).getLsbD i) with
  | some i => byteOf i
  | none => 255

/-- The output pin that tells the host that something it has asked about is waiting (R214). -/
def alertLine (s : State) : Bool := s.notices.line

/-- An edge at an edge source: pending, or overrun when it is pending already (R214). -/
def Edge.raise (e : Edge) : Edge := if e.pending then { e with overrun := true } else { e with pending := true }

/-- A notice joins its queue, or is dropped and sets DROPPED when the queue holds 64 (R212). -/
def NoticeQueue.post (q : NoticeQueue) (n : Notice) : NoticeQueue :=
  if q.items.length < Config.noticeRoom then { q with items := q.items ++ [n] } else { q with dropped := true }

/-- A notice queue of the unit. -/
def NoticeUnit.queue (u : NoticeUnit) : QueueId → NoticeQueue
  | .custody => u.custody
  | .timing => u.timing
  | .thermal => u.thermal
  | .rule => u.rule

/-- Change one notice queue of the unit. -/
def NoticeUnit.modQueue (u : NoticeUnit) (q : QueueId) (f : NoticeQueue → NoticeQueue) : NoticeUnit :=
  match q with
  | .custody => { u with custody := f u.custody }
  | .timing => { u with timing := f u.timing }
  | .thermal => { u with thermal := f u.thermal }
  | .rule => { u with rule := f u.rule }

end Sys2Proof.Machine
end

