-- ==== Sys2Proof/Machine/Ops.lean ====
section
/-! DEFINITION. The named operations over the state that the commands share: one change of a block each, then records,
cells, roster, plans, notices, counter events, pickup queues, the deadline list, holds, the close check and retirement. -/

namespace Sys2Proof.Machine

/-! ## One block at a time -/

def State.modPorts (s : State) (f : PortUnit → PortUnit) : State := { s with ports := f s.ports }
def State.modEngine (s : State) (f : Engine → Engine) : State := { s with engine := f s.engine }
def State.modPickup (s : State) (f : Table (List PickupEntry) → Table (List PickupEntry)) : State :=
  { s with pickup := f s.pickup }
def State.modTimer (s : State) (f : DeadlineTimer → DeadlineTimer) : State := { s with timer := f s.timer }
def State.modDwell (s : State) (f : DwellUnit → DwellUnit) : State := { s with dwell := f s.dwell }
def State.modPlans (s : State) (f : Table Plan → Table Plan) : State := { s with plans := f s.plans }
def State.modRules (s : State) (f : Table Rule → Table Rule) : State := { s with rules := f s.rules }
def State.modNotices (s : State) (f : NoticeUnit → NoticeUnit) : State := { s with notices := f s.notices }

/-- Frames leave the part (log 5). -/
def State.send (s : State) (frames : List Frame) : State := { s with sent := s.sent ++ frames }

/-! ## What a record holds -/

/-- The state of a record (R12). -/
def Custody.state : Custody → RecordState
  | .carried .. => .carried
  | .booked .. => .booked
  | .staged .. => .staged
  | .claimed .. => .claimed

/-- The party: the robot answerable for the record (R21). -/
def Custody.party : Custody → Option Nat
  | .carried carrier _ => some carrier
  | .booked carrier .. => some carrier
  | .staged .. => none
  | .claimed _ claimant _ => some claimant

/-- The cell the record is booked for or stands on (R13). -/
def Custody.cell : Custody → Option Nat
  | .carried .. => none
  | .booked _ cell .. => some cell
  | .staged spot _ => some spot.cell
  | .claimed spot .. => some spot.cell

/-- The lapsed robot (R20). -/
def Custody.lapsed : Custody → Option Nat
  | .carried _ lapsed => lapsed
  | .booked .. => none
  | .staged _ lapsed => lapsed
  | .claimed .. => none

/-- The place on the cell of a STAGED or CLAIMED record (R12 to R15). -/
def Custody.spot : Custody → Option Spot
  | .carried .. => none
  | .booked .. => none
  | .staged spot _ => some spot
  | .claimed spot .. => some spot

/-- The designated receiver stored (R15). -/
def Custody.receiver : Custody → Option Nat
  | .carried .. => none
  | .booked _ _ receiver .. => receiver
  | .staged spot _ => spot.receiver
  | .claimed spot .. => spot.receiver

/-- The timing of a BOOKED or CLAIMED record (R19). -/
def Custody.timing : Custody → Option Timing
  | .carried .. => none
  | .booked _ _ _ _ timing => some timing
  | .staged .. => none
  | .claimed _ _ timing => some timing

/-- Whether a record is held (R19). -/
def Custody.isHeld (c : Custody) : Bool :=
  match c.timing with
  | some (.held _) => true
  | _ => false

/-- The remaining budget: budget minus exposure, or 0 when overdue (R18, R78). -/
def Record.remaining (r : Record) : Nat := if r.overdue then 0 else r.budget - r.exposure

/-! ## Records, handles, cells, roster, plans -/

/-- The generation of a slot (R1). -/
def State.generation (s : State) (slot : Nat) : Nat := s.engine.gens.lookD 0 slot

/-- The handle of the record in a slot (R2). -/
def State.handleOf (s : State) (slot : Nat) : Handle := ⟨slot, s.generation slot⟩

/-- The live record a slot and generation name (R2). -/
def State.recordOf (s : State) (h : Handle) : Option Record :=
  if s.generation h.slot = h.gen then s.engine.records.look h.slot else none

/-- Resolve a received handle: top bit zero, slot live, generation equal (R2). -/
def State.resolve (s : State) (raw : Half) : Option (Handle × Record) :=
  match Handle.ofWire raw with
  | some h => (s.recordOf h).map fun r => (h, r)
  | none => none

/-- The live count (R1). -/
def State.liveCount (s : State) : Nat := s.engine.records.length

/-- Write a live record. -/
def State.putRecord (s : State) (slot : Nat) (r : Record) : State :=
  s.modEngine fun e => { e with records := e.records.put slot r }

/-- A defined cell's entry (R27). -/
def State.cell (s : State) (n : Nat) : Option Cell := s.engine.cells.look n

/-- Write a cell's entry. -/
def State.putCell (s : State) (n : Nat) (c : Cell) : State :=
  s.modEngine fun e => { e with cells := e.cells.put n c }

/-- Change a defined cell's entry; an undefined one is left as it is. -/
def State.modCell (s : State) (n : Nat) (f : Cell → Cell) : State :=
  match s.cell n with
  | some c => s.putCell n (f c)
  | none => s

/-- The zone of a cell (R28). -/
def State.cellZone (s : State) (n : Nat) : Nat := ((s.cell n).map (·.zone)).getD 0

/-- The top bin of a cell's stack (R33). -/
def State.cellTop (s : State) (n : Nat) : Option Handle := (s.cell n).bind (·.stack.getLast?)

/-- The stack position of a handle on a cell, counted from 0 at the bottom (R33). -/
def State.position (s : State) (n : Nat) (h : Handle) : Option Nat :=
  (s.cell n).bind fun c => c.stack.findIdx? (· == h)

/-- The stack position reported for a record: that of a STAGED or CLAIMED one (R13, R33). -/
def State.recordPosition (s : State) (h : Handle) (r : Record) : Option Nat :=
  r.custody.spot.bind fun spot => s.position spot.cell h

/-- A robot's roster entry, absent when it is UNENROLLED (R81). -/
def State.robot (s : State) (n : Nat) : Option Robot := s.engine.roster.look n

/-- Write an enrolled robot's entry. -/
def State.putRobot (s : State) (n : Nat) (r : Robot) : State :=
  s.modEngine fun e => { e with roster := e.roster.put n r }

/-- Change an enrolled robot's entry; an UNENROLLED one is left as it is. -/
def State.modRobot (s : State) (n : Nat) (f : Robot → Robot) : State :=
  match s.robot n with
  | some r => s.putRobot n (f r)
  | none => s

/-- Set or clear a robot's party reference (R82). -/
def State.setParty (s : State) (n : Nat) (p : Option (Handle × Role)) : State :=
  s.modRobot n fun r => { r with party := p }

/-- Change a defined plan. -/
def State.modPlan (s : State) (n : Nat) (f : Plan → Plan) : State :=
  match s.plans.look n with
  | some p => s.modPlans fun t => t.put n (f p)
  | none => s

/-- A plan gains a live record that names it (R118). -/
def State.planUp (s : State) (n : Nat) : State := s.modPlan n fun p => { p with refs := p.refs + 1 }

/-- A plan loses a live record that names it (R118). -/
def State.planDown (s : State) (n : Nat) : State := s.modPlan n fun p => { p with refs := p.refs - 1 }

/-- The leg a route names (R123). -/
def State.legOf (s : State) (route : Route) : Option Leg :=
  (s.plans.look route.plan).bind fun p => p.legs[route.leg]?

/-- The parameters of a class (R159). -/
def DwellUnit.params (d : DwellUnit) : ThermalClass → ClassParams
  | .ambient => d.ambient
  | .chilled => d.chilled
  | .frozen => d.frozen

/-- Replace the parameters of a class (R160). -/
def DwellUnit.setParams (d : DwellUnit) (c : ThermalClass) (p : ClassParams) : DwellUnit :=
  match c with
  | .ambient => { d with ambient := p }
  | .chilled => { d with chilled := p }
  | .frozen => { d with frozen := p }

/-! ## Notices and counter events -/

/-- Post a notice to a queue, with the grid clock as its time (R134, R212). -/
def State.post (s : State) (q : QueueId) (n : Notice) : State :=
  s.modNotices fun u => u.modQueue q fun nq => nq.post { n with time := s.timer.clock }

/-- A notice about a record; `post` writes its time. -/
def recordNotice (kind : NoticeKind) (h : Handle) (r : Record) (robot cell : Option Nat) (zone : Nat) (detail : Byte) :
    Notice :=
  ⟨kind, 0, some h, some r.bin, robot, cell, some zone, detail⟩

/-- What a counter slot adds for an event (R216). -/
def CounterSlot.amount (c : CounterSlot) (e : EventKind) (amount : Nat) : Nat :=
  if c.exposure then (if e = .accrual then amount else 0) else 1

/-- Add an event to one counter of a zone (R216). -/
def NoticeUnit.countSlot (u : NoticeUnit) (e : EventKind) (zone amount slot : Nat) : NoticeUnit :=
  let c := u.slots.lookD .reset slot
  if c.events.getLsbD e.bit then
    { u with counters := u.counters.putD 0 (4 * zone + slot)
                           (u.counters.lookD 0 (4 * zone + slot) + wordOf (c.amount e amount)) }
  else u

/-- A counter event reaches the four counters of its zone (R216). -/
def State.countEvent (s : State) (e : EventKind) (zone amount : Nat) : State :=
  s.modNotices fun u => [0, 1, 2, 3].foldl (fun u slot => u.countSlot e zone amount slot) u

/-- LINK receives an edge (R214). -/
def State.linkEdge (s : State) : State := s.modNotices fun u => { u with linkEdge := u.linkEdge.raise }

/-- CAPACITY receives an edge (R214). -/
def State.capacityEdge (s : State) : State := s.modNotices fun u => { u with capacityEdge := u.capacityEdge.raise }

/-! ## Pickup queues -/

/-- The age of a stage sequence against the counter (R96). -/
def seqAge (counter seq : Word) : Nat := (counter - seq).toNat

/-- Queue order: higher priority first; within a priority the greater age, then the lower slot. Stage sequences fewer than
2^31 apart, measured by age, compare by age as they do by signed difference, so that this is both orders of R96
(`pickupLe_signed`; log 7). -/
def pickupLe (counter : Word) (x y : PickupEntry) : Bool :=
  x.priority > y.priority ||
    x.priority == y.priority &&
      (seqAge counter x.seq > seqAge counter y.seq ||
        seqAge counter x.seq == seqAge counter y.seq && x.handle.slot ≤ y.handle.slot)

/-- A queue in order, as the counter stands after the step (R96). -/
def sortPickup (counter : Word) (q : List PickupEntry) : List PickupEntry :=
  q.insertionSort fun x y => pickupLe counter x y = true

/-- Whether a record stands in a queue. -/
def standsIn (h : Handle) (q : List PickupEntry) : Bool := q.any fun e => e.handle == h

/-- Enter: insert an entry at its place, unless the record stands in the queue already (R98). -/
def enterQueue (counter : Word) (e : PickupEntry) (q : List PickupEntry) : List PickupEntry :=
  if standsIn e.handle q then q else sortPickup counter (e :: q)

/-- Leave: remove a record from a queue that holds it (R98). -/
def leaveQueue (counter : Word) (h : Handle) (q : List PickupEntry) : List PickupEntry :=
  if standsIn h q then sortPickup counter (q.filter fun e => e.handle ≠ h) else q

/-- Priority change: the entry of a record takes the new priority and moves to its place (R98). -/
def reprioritise (counter : Word) (h : Handle) (priority : Nat) (q : List PickupEntry) : List PickupEntry :=
  if standsIn h q then
    sortPickup counter (q.map fun e => if e.handle = h then { e with priority := priority } else e)
  else q

/-- The eight custody groups. -/
def groups : List Nat := [0, 1, 2, 3, 4, 5, 6, 7]

/-- A pickup queue (R95). -/
def State.queueOf (s : State) (g : Nat) : List PickupEntry := s.pickup.lookD [] g

/-- Change the queues of the groups that a test names. -/
def State.modQueues (s : State) (test : Nat → Bool) (f : List PickupEntry → List PickupEntry) : State :=
  s.modPickup fun t => groups.foldl (fun t g => if test g then t.putD [] g (f (t.lookD [] g)) else t) t

/-- An enter for a record (R98). -/
def State.enter (s : State) (h : Handle) (mask : Byte) (priority : Nat) (seq : Word) : State :=
  s.modQueues (fun g => mask.getLsbD g) (enterQueue s.engine.stageSeq ⟨h, priority, seq⟩)

/-- A leave for a record (R98). -/
def State.leave (s : State) (h : Handle) : State :=
  s.modQueues (fun _ => true) (leaveQueue s.engine.stageSeq h)

/-- A priority change for a record (R98). -/
def State.priorityChange (s : State) (h : Handle) (priority : Nat) : State :=
  s.modQueues (fun _ => true) (reprioritise s.engine.stageSeq h priority)

/-- A mask change for a record, with the priority and sequence its entries hold; nothing for a record that stands in no
queue (R98). -/
def State.maskChange (s : State) (h : Handle) (old new : Byte) (priority : Nat) (seq : Word) : State :=
  if groups.any fun g => standsIn h (s.queueOf g) then
    (s.modQueues (fun g => old.getLsbD g && !new.getLsbD g) (leaveQueue s.engine.stageSeq h)).modQueues
      (fun g => new.getLsbD g && !old.getLsbD g) (enterQueue s.engine.stageSeq ⟨h, priority, seq⟩)
  else s

/-! ## The deadline list -/

/-- Whether instant x has been reached: the clock minus x, as a signed quantity, is 0 or more (R134). -/
def reached (clock x : Word) : Bool := !(clock - x).msb

/-- The time left to an instant, 0 when it has been reached (R50, R146). -/
def timeLeft (clock x : Word) : Nat := if reached clock x then 0 else (x - clock).toNat

/-- Put an entry behind every entry whose instant is not later (R136). -/
def insertDeadline (d : Deadline) : List Deadline → List Deadline
  | [] => [d]
  | e :: t => if (d.instant - e.instant).msb then d :: e :: t else e :: insertDeadline d t

/-- Arm an entry (R137). -/
def State.arm (s : State) (h : Handle) (kind : DeadlineKind) (instant : Word) : State :=
  s.modTimer fun t => { t with list := insertDeadline ⟨instant, h, kind, false⟩ t.list }

/-- Disarm: remove a record's entry, if it has one (R138). -/
def State.disarm (s : State) (h : Handle) : State :=
  s.modTimer fun t => { t with list := t.list.filter fun e => e.handle ≠ h }

/-! ## Links and holds -/

/-- A robot link of the Port Unit. -/
def PortUnit.robotLink (p : PortUnit) : Link → RobotLink
  | .a => p.linkA
  | .b => p.linkB

/-- Change a robot link of the Port Unit. -/
def PortUnit.modLink (p : PortUnit) (l : Link) (f : RobotLink → RobotLink) : PortUnit :=
  match l with
  | .a => { p with linkA := f p.linkA }
  | .b => { p with linkB := f p.linkB }

/-- Whether a robot link is UP (R195). -/
def State.linkUp (s : State) (l : Link) : Bool := (s.ports.robotLink l).up

/-- The timing of a new booking or claim: a deadline after the window when the link is UP, else the whole window saved
(R61, R68, R135, R137). -/
def State.startTiming (s : State) (h : Handle) (kind : DeadlineKind) (l : Link) (window : Nat) : State × Timing :=
  if s.linkUp l then
    let d := s.timer.clock + wordOf (window * 250)
    (s.arm h kind d, .armed d)
  else (s, .held (window * 250))

/-- Bring a record's timing into line with its party's link: re-arm a held one when the link is UP, hold an armed one when
it is DOWN, else nothing (R50, R146, R147). -/
def State.alignTiming (s : State) (h : Handle) (kind : DeadlineKind) (up : Bool) : Timing → Option (State × Timing)
  | .held saved =>
    if up then
      let d := s.timer.clock + wordOf saved
      some (s.arm h kind d, .armed d)
    else none
  | .armed d => if up then none else some (s.disarm h, .held (timeLeft s.timer.clock d))

/-- Bring the record in a slot into line with its party's link; a CARRIED or STAGED one is left as it is (R50, R146, R147). -/
def State.alignHold (s : State) (slot : Nat) (up : Bool) : State :=
  match s.engine.records.look slot with
  | none => s
  | some r =>
    match r.custody with
    | .carried .. => s
    | .staged .. => s
    | .booked carrier cell receiver ov timing =>
      match s.alignTiming (s.handleOf slot) .booking up timing with
      | none => s
      | some (s1, timing1) => s1.putRecord slot { r with custody := .booked carrier cell receiver ov timing1 }
    | .claimed spot claimant timing =>
      match s.alignTiming (s.handleOf slot) .claim up timing with
      | none => s
      | some (s1, timing1) => s1.putRecord slot { r with custody := .claimed spot claimant timing1 }

/-- Whether a record's party was last heard on a link (R146). -/
def State.partyOn (s : State) (r : Record) (l : Link) : Bool :=
  match r.custody.party with
  | some n => ((s.robot n).bind (·.lastLink)) == some l
  | none => false

/-- A link event's work at the Custody Engine: every record whose party's last link is the link, in ascending slot order
(R146, R147, R195). -/
def State.alignLink (s : State) (l : Link) (up : Bool) : State :=
  s.engine.records.foldl (fun t p => if t.partyOn p.2 l then t.alignHold p.1 up else t) s

/-! ## Cells and retirement -/

/-- The close check (R41). -/
def State.closeCheck (s : State) (n : Nat) : State :=
  match s.cell n with
  | none => s
  | some c =>
    if c.state = .draining ∧ c.admissions = 0 ∧ c.stack = [] ∧ c.reserved = 0 then
      (s.putCell n { c with state := .closed }).countEvent .closed c.zone 0
    else s

/-- The bin now on top of a cell enters its pickup queues, if there is one and it is STAGED (R23, R37, R102). -/
def State.uncover (s : State) (n : Nat) : State :=
  match s.cellTop n with
  | none => s
  | some h =>
    match s.recordOf h with
    | none => s
    | some r =>
      match r.custody with
      | .staged spot _ => s.enter h spot.mask r.priority spot.seq
      | _ => s

/-- Take a handle off a cell's stack and uncover the bin beneath when it was the top (R37, R38, R102). -/
def State.unstack (s : State) (n : Nat) (h : Handle) : State :=
  let wasTop := s.cellTop n = some h
  let s1 := s.modCell n fun c => { c with stack := c.stack.filter fun x => x ≠ h }
  if wasTop then s1.uncover n else s1

/-- A booking's place on a cell is given back (R31). -/
def State.unreserve (s : State) (n : Nat) : State := s.modCell n fun c => { c with reserved := c.reserved - 1 }

/-- Step 8 of retirement: the fields are discarded, the generation advances modulo 16 and the slot joins the tail of the
Free Slot Queue (R3, R5, R23). -/
def State.freeSlot (s : State) (slot : Nat) : State :=
  s.modEngine fun e =>
    { e with
      records := e.records.del slot
      gens := e.gens.putD 0 slot ((e.gens.lookD 0 slot + 1) % 16)
      freeSlots := e.freeSlots ++ [slot] }

/-- Steps 2 and 3 of retirement: the record's place on its cell's stack, or its booking (R23). -/
def State.leaveCell (s : State) (h : Handle) : Custody → State
  | .carried .. => s
  | .booked _ cell .. => s.unreserve cell
  | .staged spot _ => s.unstack spot.cell h
  | .claimed spot .. => s.unstack spot.cell h

/-- Retirement of the live record a handle names: the nine steps of R23, in their order. -/
def State.retire (s : State) (h : Handle) (r : Record) : State :=
  let s1 := s.modEngine fun e => { e with binIndex := e.binIndex.del r.bin }
  let s2 := s1.leaveCell h r.custody
  let s4 := s2.leave h
  let s5 := s4.disarm h
  let s6 := match r.custody.party with
    | some n => s5.setParty n none
    | none => s5
  let s7 := match r.route with
    | some route => s6.planDown route.plan
    | none => s6
  let s8 := s7.freeSlot h.slot
  match r.custody.cell with
  | some n => s8.closeCheck n
  | none => s8

end Sys2Proof.Machine
end

