-- ==== Sys2Proof/Machine/Service.lean ====
section
/-! DEFINITION. How a request is presented at its port, taken by the rotation and answered (R191 to R194), the intake of
robot requests (R49, R50), the mode's answers (R205), and the party test (R22). -/

namespace Sys2Proof.Machine

/-! ## Input queues and the rotation -/

/-- A port's input queue (R192). -/
def PortUnit.queue (p : PortUnit) : Port → List Frame
  | .link .a => p.linkA.queue
  | .link .b => p.linkB.queue
  | .host => p.hostQueue

/-- Replace a port's input queue. -/
def PortUnit.setQueue (p : PortUnit) (port : Port) (q : List Frame) : PortUnit :=
  match port with
  | .link .a => { p with linkA := { p.linkA with queue := q } }
  | .link .b => { p with linkB := { p.linkB with queue := q } }
  | .host => { p with hostQueue := q }

/-- The port after a port, in the cyclic order link A, link B, management port (R193). -/
def portAfter : Port → Port
  | .link .a => .link .b
  | .link .b => .host
  | .host => .link .a

/-- The port whose request the engine takes next: from the pointer, the first whose queue is not empty (R193). -/
def PortUnit.nextPort (p : PortUnit) : Option Port :=
  [p.pointer, portAfter p.pointer, portAfter (portAfter p.pointer)].find? fun port => !(p.queue port).isEmpty

/-- The request the engine takes next (R193). -/
def PortUnit.nextRequest (p : PortUnit) : Option Frame := p.nextPort.bind fun port => (p.queue port).head?

/-- The engine takes the next request: it leaves the head of its queue, and the pointer moves to the port after (R192, R193). -/
def PortUnit.take (p : PortUnit) : PortUnit :=
  match p.nextPort with
  | some port => { p.setQueue port (p.queue port).tail with pointer := portAfter port }
  | none => p

/-! ## Replies -/

/-- What a request is answered: a result, and the body of each segment of the reply (R194). -/
structure Answer where
  result : Result
  segments : List (List Byte)
deriving DecidableEq, Repr

/-- A refusal with an empty body (R203). -/
def refuse (r : Result) : Answer := ⟨r, [[]]⟩

/-- OK with a body. -/
def accept (body : List Byte) : Answer := ⟨.ok, [body]⟩

/-- A reply's kind: the request's kind with the reply bit set (R194). -/
def replyKind (k : Byte) : Byte := k ||| 0x80#8

/-- The frames of a reply: on a robot link one frame with the request's robot field, on the management port one frame per
segment with the segment index and count (R194, R202). -/
def replyFrames (f : Frame) (a : Answer) : List Frame :=
  match f.port with
  | .link l => [⟨.link l, replyKind f.kind, a.result.code, f.tag, f.robot, a.segments.headD []⟩]
  | .host => a.segments.mapIdx fun i body =>
      ⟨.host, replyKind f.kind, a.result.code, f.tag, halfOf (256 * i + a.segments.length), body⟩

/-- A reply leaves the part at once: discarded on a robot link that is DOWN, always sent on the management port (R52, R190,
R194). -/
def State.sendReply (s : State) (f : Frame) (a : Answer) : State :=
  match f.port with
  | .link l => if s.linkUp l then s.send (replyFrames f a) else s
  | .host => s.send (replyFrames f a)

/-- The reply to a request that was taken: on the management port it waits behind the reply of a FLUSH in progress, since
replies leave in the order their requests were taken (R194, log 6). -/
def State.respond (s : State) (f : Frame) (a : Answer) : State :=
  if f.port = .host ∧ s.engine.flush.isSome then
    s.modPorts fun p => { p with unsent := p.unsent ++ replyFrames f a }
  else s.sendReply f a

/-! ## Port checks -/

/-- Whether a port accepts a kind: robot kinds on a robot link, management kinds on the management port (R191). -/
def portTakes (port : Port) (k : Nat) : Bool :=
  match port with
  | .link _ => robotKind k
  | .host => hostKind k

/-- The port-level checks of R191, in order: the refusal, if one fails. -/
def PortUnit.refusal (p : PortUnit) (f : Frame) : Option Result :=
  let k := f.kind.toNat
  if !(robotKind k || hostKind k) then some .unknownKind
  else if !portTakes f.port k then some .notPermitted
  else if !bodyFits k f.body.length then some .badField
  else if (p.queue f.port).length < Config.inputRoom then none
  else some .busy

/-- A request is presented at its port: refused at once, or it joins the tail of the port's input queue (R191, R192). -/
def State.present (s : State) (f : Frame) : State :=
  match s.ports.refusal f with
  | some r => s.sendReply f (refuse r)
  | none => s.modPorts fun p => p.setQueue f.port (p.queue f.port ++ [f])

/-! ## Serving a request -/

/-- What serving a request gives: the state, and the answer unless it comes later (FLUSH, R210). -/
abbrev Served := State × Option Answer

/-- A command that stands for a request (log 1). Unless its frame is the one the rotation hands over next, it is presented
at its port. Then, if it is the one handed over, the engine takes and serves it, and its answer is sent. Otherwise it waits
in its input queue, or has been refused at the port. -/
def State.serve (s : State) (c : Instr) (run : Frame → State → Served) : State :=
  match c.frame with
  | none => s
  | some f =>
    let s1 := if s.ports.nextRequest = some f then s else s.present f
    if s1.ports.nextRequest = some f then
      match run f (s1.modPorts PortUnit.take) with
      | (s2, some a) => s2.respond f a
      | (s2, none) => s2
    else s1

/-! ## The mode's answers and the intake of robot requests -/

/-- The link update of intake: the last link becomes the request's link, and the hold of the BOOKED or CLAIMED record the
robot is party to is brought into line with that link's state (R50). -/
def State.linkUpdate (s : State) (n : Nat) (l : Link) (r : Robot) : State :=
  let s1 := s.putRobot n { r with lastLink := some l }
  match r.party with
  | some (h, _) => s1.alignHold h.slot (s1.linkUp l)
  | none => s1

/-- A robot request: the three intake steps, then the request's own checks and effects, given the robot's number (R49). -/
def robotService (l : Link) (h : Hdr) (own : Nat → State → State × Answer) (_ : Frame) (s : State) : Served :=
  if s.engine.mode ≠ .run then (s, some (refuse .notReady))
  else
    let n := h.robot.toNat
    if n = 0 ∨ n > 1023 then (s, some (refuse .unknownRobot))
    else
      match s.robot n with
      | none => (s, some (refuse .unknownRobot))
      | some r =>
        let (s1, a) := own n (s.linkUpdate n l r)
        (s1, some a)

/-- A management request other than STATUS, FLUSH: BUSY while a FLUSH is in progress, else served (R205). -/
def hostService (own : State → State × Answer) (_ : Frame) (s : State) : Served :=
  if s.engine.mode = .flushing then (s, some (refuse .busy))
  else
    let (s1, a) := own s
    (s1, some a)

/-! ## The party test -/

/-- The party test of R22: the answer it gives, or none when it passes. -/
def partyTest (need : RecordState) (namesLate : Bool) (n : Nat) (r : Record) : Option Result :=
  if r.custody.state = need ∧ r.custody.party = some n then none
  else if namesLate ∧ r.custody.lapsed = some n then some .late
  else if r.custody.state = need then some .notParty
  else some .wrongState

/-- The notice that accompanies a LATE answer; its detail is the kind of the request (R53, log 22). -/
def State.postLate (s : State) (kind : Byte) (n : Nat) (h : Handle) (r : Record) : State :=
  s.post .timing (recordNotice .lateReport h r (some n) r.custody.cell r.presentZone kind)

/-- The handle check and the party test of a robot request (R2, R22, R53); a request that passes goes on with the handle
and its record. -/
def withParty (kind : Byte) (need : RecordState) (namesLate : Bool) (raw : Half) (n : Nat) (s : State)
    (go : Handle → Record → State × Answer) : State × Answer :=
  match s.resolve raw with
  | none => (s, refuse .staleHandle)
  | some (h, r) =>
    match partyTest need namesLate n r with
    | none => go h r
    | some .late => (s.postLate kind n h r, refuse .late)
    | some other => (s, refuse other)

end Sys2Proof.Machine
end

