-- ==== Sys2Proof/Machine/Blocks.lean ====
section
/-! DEFINITION. The blocks that replies carry (R203): record, cell summary, roster entry, plan, class, zone, rule, link and
notice. -/

namespace Sys2Proof.Machine

/-- The time field of a record block: the deadline, the saved time of a held record, or 0 (R201). -/
def Custody.timeField (c : Custody) : Word :=
  match c.timing with
  | some (.armed d) => d
  | some (.held saved) => wordOf saved
  | none => 0

/-- The giver of a STAGED or CLAIMED record (R12). -/
def Custody.giver (c : Custody) : Option Nat := c.spot.map (·.giver)

/-- The receiver override of a BOOKED record (R16). -/
def Custody.receiverOverride : Custody → Option Byte
  | .booked _ _ _ ov _ => ov
  | _ => none

/-- The record block, 44 bytes (R203). -/
def recordBlock (s : State) (h : Handle) (r : Record) : List Byte :=
  let c := r.custody
  be16 h.wire ++ be32 (wordOf r.bin) ++
    [c.state.code, r.cls.code, r.wave, byteOf r.priority, byteOf (16 * r.originZone + r.presentZone),
      flagByte [r.warned, r.overdue, r.exempt, r.rescued, c.isHeld]] ++
    robotField c.party ++ robotField c.giver ++ robotField c.receiver ++ robotField c.lapsed ++ cellField c.cell ++
    [smallField (s.recordPosition h r), maskField (c.spot.map (·.mask)), maskField c.receiverOverride,
      smallField (r.route.map (·.plan)), smallField (r.route.map (·.leg)), byteOf (16 * r.hops + r.hopLimit)] ++
    be16 (halfOf r.exposure) ++ be16 (halfOf r.budget) ++ be32 ((c.spot.map (·.seq)).getD 0) ++ be32 c.timeField ++
    be32 r.openedAt

/-- The cell summary, 8 bytes; an undefined cell has zeros after its number (R42, R203). -/
def cellSummary (s : State) (n : Nat) : List Byte :=
  be16 (halfOf n) ++
    match s.cell n with
    | none => [0, 0, 0, 0, 0, 0]
    | some c => [1, c.state.code, byteOf c.capacity, byteOf c.stack.length, byteOf c.reserved, byteOf c.admissions]

/-- The number of replies that have been formed: the place of the next draw of a free value (log 8, log 9). -/
def State.draw (s : State) : Nat := s.sent.length + s.ports.unsent.length

/-- State and hold of the record a party reference names; with no reference the two bytes are free values (R90, log 8). -/
def partyBytes (s : State) (party : Option (Handle × Role)) : List Byte :=
  match party.bind fun p => s.recordOf p.1 with
  | some r => [r.custody.state.code, boolByte r.custody.isHeld]
  | none => [Config.unstatedByte s.draw 0, Config.unstatedByte s.draw 1]

/-- The roster entry block, 12 bytes (R90, R203). -/
def rosterBlock (s : State) (n : Nat) : List Byte :=
  let e := s.robot n
  let party := e.bind (·.party)
  be16 (halfOf n) ++
    [robotStateCode e, byteOf ((e.map (·.group)).getD 0), lastLinkCode (e.bind (·.lastLink))] ++
    handleField (party.map (·.1)) ++ [roleCode (party.map (·.2))] ++ partyBytes s party ++
    [byteOf ((e.map (·.misses)).getD 0), byteOf s.engine.missLimit]

/-- The cell group and receiver mask of each leg (R203). -/
def legBlock (legs : List Leg) : List Byte := legBytes (legs.map fun l => (byteOf l.group, l.mask))

/-- The plan block; an undefined plan has count 0 and no legs (R121, R203). -/
def planBlock (s : State) (n : Nat) : List Byte :=
  match s.plans.look n with
  | none => [byteOf n, 0] ++ be16 0
  | some p => [byteOf n, 1] ++ be16 (halfOf p.refs) ++ legBlock p.legs

/-- The class fields as CLASS-WRITE carries them (R160, R203). -/
def classBlock (s : State) (c : ThermalClass) : List Byte :=
  let p := s.dwell.params c
  [c.code, signedByte p.threshold, byteOf p.coefficient, byteOf p.base] ++ be16 (halfOf p.budget) ++
    [byteOf p.hopLimit, smallField p.rescue]

/-- The entry of a zone (R152). -/
def State.zone (s : State) (n : Nat) : Zone := s.dwell.zones.lookD .reset n

/-- The effective temperature: T, or T plus the stale margin when STALE, at most 120 (R157, R168). -/
def effective (margin : Nat) (z : Zone) : Int := min 120 (if z.stale then z.temperature + margin else z.temperature)

/-- The zone block, 6 bytes (R203). -/
def zoneBlock (s : State) (n : Nat) : List Byte :=
  let z := s.zone n
  [byteOf n, signedByte z.temperature, feedCode z.sensor, byteOf z.passes, boolByte z.stale,
    signedByte (effective s.dwell.staleMargin z)]

/-- A policy rule (R175). -/
def State.rule (s : State) (n : Nat) : Rule := s.rules.lookD .reset n

/-- The rule block with the hit flag, 25 bytes (R203). -/
def ruleBlock (s : State) (n : Nat) : List Byte :=
  let r := s.rule n
  [byteOf n, boolByte r.valid] ++ r.fields.bytes ++
    [flagByte [r.deny, r.overrides, r.notifyAlways, r.notifyOnce, r.exempt], r.overrideMask, r.scale.code,
      byteOf r.floor, boolByte r.hit]

/-- The link block, 6 bytes (R198, R199, R203). -/
def linkBlock (s : State) (l : Link) : List Byte :=
  let k := s.ports.robotLink l
  [linkCode l, boolByte k.up, boolByte k.mirror, byteOf k.bookWindow, byteOf k.claimWindow, byteOf k.silenceLimit]

/-- A link's byte in the STATUS reply: bit 0 state, bit 1 mirror (R203). -/
def linkStatus (s : State) (l : Link) : Byte :=
  flagByte [(s.ports.robotLink l).up, (s.ports.robotLink l).mirror]

/-- The notice block, 18 bytes; an absent bin ID is a free value (R203, log 9). -/
def noticeBlock (unstated : Word) (n : Notice) : List Byte :=
  [n.kind.code] ++ be32 n.time ++
    [flagByte [n.handle.isSome, n.bin.isSome, n.robot.isSome, n.cell.isSome, n.zone.isSome]] ++
    handleField n.handle ++ be32 ((n.bin.map wordOf).getD unstated) ++ robotField n.robot ++ cellField n.cell ++
    [byteOf (n.zone.getD 0), n.detail]

end Sys2Proof.Machine
end

