-- ==== Sys2Proof/Machine/Policy.lean ====
section
/-! DEFINITION. The Policy Matcher (chapter 9): matching, the matched rule's hit flag and notification, and the requests
RULE-WRITE, RULE-READ and RULE-HITS. -/

namespace Sys2Proof.Machine

/-- The nine key values of an evaluation (R176). -/
structure Key where
  point : Byte
  cls : Byte
  priority : Byte
  originZone : Byte
  targetZone : Byte
  planned : Byte
  overdue : Byte
  hops : Byte
  wave : Byte
deriving DecidableEq, Repr

/-- A field matches when every cared bit is equal in value and key (R176). -/
def fieldMatches (f : MatchField) (key : Byte) : Bool := f.value &&& f.care == key &&& f.care

/-- All nine fields match (R176). -/
def fieldsMatch (f : MatchFields) (k : Key) : Bool :=
  fieldMatches f.point k.point && fieldMatches f.cls k.cls && fieldMatches f.priority k.priority &&
    fieldMatches f.originZone k.originZone && fieldMatches f.targetZone k.targetZone &&
    fieldMatches f.planned k.planned && fieldMatches f.overdue k.overdue && fieldMatches f.hops k.hops &&
    fieldMatches f.wave k.wave

/-- The key at the DECLARE point (R177). -/
def declareKey (cls : ThermalClass) (zone priority : Nat) (planned : Bool) (wave : Byte) : Key :=
  ⟨0, cls.code, byteOf priority, byteOf zone, byteOf zone, boolByte planned, 0, 0, wave⟩

/-- The key at the BOOK point (R178). -/
def bookKey (r : Record) (targetZone : Nat) : Key :=
  ⟨1, r.cls.code, byteOf r.priority, byteOf r.originZone, byteOf targetZone, boolByte r.route.isSome, boolByte r.overdue,
    byteOf r.hops, r.wave⟩

/-- The matched rule of an evaluation: in index order the first valid rule whose fields match (R179). -/
def State.matchRule (s : State) (k : Key) : Option (Nat × Rule) :=
  s.rules.find? fun p => p.2.valid && fieldsMatch p.2.fields k

/-- Write a rule. -/
def State.putRule (s : State) (n : Nat) (r : Rule) : State := s.modRules fun t => t.putD .reset n r

/-- The detail of a RULE_MATCH notice: the index in bits 0 to 5, the denied bit in bit 7 (R203). -/
def matchDetail (index : Nat) (denied : Bool) : Byte := byteOf (index + if denied then 128 else 0)

/-- What an evaluation with a matched rule does to the Policy Matcher and the RULE queue: the hit flag is set, and the notify
actions are taken (R183, R184). -/
def State.takeRule (s : State) (m : Option (Nat × Rule)) (notice : Byte → Notice) (denied : Bool) : State :=
  match m with
  | none => s
  | some (n, r) =>
    let s1 := s.putRule n { r with hit := true, notifyOnce := r.notifyOnce && r.notifyAlways }
    if r.notifyAlways || r.notifyOnce then s1.post .rule (notice (matchDetail n denied)) else s1

/-- The budget scaled and bounded to 1 to 65535 (R161). -/
def scaledBudget (d : Nat) (scale : Scale) : Nat :=
  max 1 (min 65535 (match scale with
    | .halved => d / 2
    | .one => d
    | .two => 2 * d
    | .four => 4 * d))

/-! ## Rule requests -/

/-- A field's value and care mask fit its width (R185). -/
def fits (width : Nat) (f : MatchField) : Bool := f.value.toNat < 2 ^ width && f.care.toNat < 2 ^ width

/-- Every match field fits its width (R176, R185). -/
def fieldsFit (f : MatchFields) : Bool :=
  fits 1 f.point && fits 2 f.cls && fits 2 f.priority && fits 4 f.originZone && fits 4 f.targetZone && fits 1 f.planned &&
    fits 1 f.overdue && fits 4 f.hops && fits 8 f.wave

/-- RULE-WRITE (R185). The hit flag is kept. -/
def ruleWriteRequest (b : RuleBytes) (s : State) : State × Answer :=
  match Scale.ofByte b.scale with
  | none => (s, refuse .badField)
  | some scale =>
    let n := b.index.toNat
    if n ≤ 63 ∧ fieldsFit b.fields ∧ b.floor.toNat ≤ 3 ∧ (flagAt b.actions 1 → b.overrideMask ≠ 0) then
      let s1 := s.putRule n
        { valid := flagAt b.valid 0
          fields := b.fields
          deny := flagAt b.actions 0
          overrides := flagAt b.actions 1
          overrideMask := b.overrideMask
          notifyAlways := flagAt b.actions 2
          notifyOnce := flagAt b.actions 3
          exempt := flagAt b.actions 4
          scale := scale
          floor := b.floor.toNat
          hit := (s.rule n).hit }
      (s1, accept (ruleBlock s1 n))
    else (s, refuse .badField)

/-- RULE-READ (R186). -/
def ruleReadRequest (index : Byte) (s : State) : State × Answer :=
  if index.toNat ≤ 63 then (s, accept (ruleBlock s index.toNat)) else (s, refuse .badField)

/-- The hit flags of the 64 rules as a set (R187, R200). -/
def State.hitSet (s : State) : Quad :=
  (List.range 64).foldl (fun acc i => if (s.rule i).hit then acc ||| (1#64 <<< i) else acc) 0

/-- RULE-HITS: read the 64 flags, then clear those of the set (R187). -/
def ruleHitsRequest (clear : Quad) (s : State) : State × Answer :=
  let s1 := (List.range 64).foldl
    (fun t i => if clear.getLsbD i then t.putRule i { t.rule i with hit := false } else t) s
  (s1, accept (be64 s.hitSet))

/-- The RULE-WRITE command. -/
def execRuleWrite (h : Hdr) (rule : RuleBytes) (s : State) : Host.Outcome State Fault Refusal :=
  .next (s.serve (.ruleWrite h rule) (hostService (ruleWriteRequest rule)))

/-- The RULE-READ command. -/
def execRuleRead (h : Hdr) (index : Byte) (s : State) : Host.Outcome State Fault Refusal :=
  .next (s.serve (.ruleRead h index) (hostService (ruleReadRequest index)))

/-- The RULE-HITS command. -/
def execRuleHits (h : Hdr) (clear : Quad) (s : State) : Host.Outcome State Fault Refusal :=
  .next (s.serve (.ruleHits h clear) (hostService (ruleHitsRequest clear)))

end Sys2Proof.Machine
end

