-- ==== Sys2Proof/Machine/Custody.lean ====
section
/-! DEFINITION. The robot requests (chapter 3) with the custody check and the SEEK walk (chapter 5). Each `…Request` takes
the robot's number and the state after intake, makes the request's own checks in their order and gives its effect and
answer. -/

namespace Sys2Proof.Machine

/-! ## DECLARE -/

/-- The record that an accepted DECLARE opens (R9, R57, R161, R182). -/
def newRecord (s : State) (n bin : Nat) (cls : ThermalClass) (zone : Nat) (plan : Option Nat) (wave : Byte)
    (priority : Nat) (m : Option (Nat × Rule)) : Record :=
  let p := s.dwell.params cls
  { bin := bin
    cls := cls
    wave := wave
    priority := max priority ((m.map (·.2.floor)).getD 0)
    originZone := zone
    presentZone := zone
    route := plan.map fun k => ⟨k, 0⟩
    hops := 0
    hopLimit :=
      match plan with
      | some k => ((s.plans.look k).map (·.legs.length)).getD 0
      | none => p.hopLimit
    exposure := 0
    budget := scaledBudget p.budget ((m.map (·.2.scale)).getD .one)
    warned := false
    overdue := false
    exempt := (m.map (·.2.exempt)).getD false
    rescued := false
    openedAt := s.timer.clock
    custody := .carried n none }

/-- The record joins the table: slot taken from the head of the Free Slot Queue, Bin Index, roster, plan count, CAPACITY edge
(R1, R4, R6, R57). -/
def State.openRecord (s : State) (n slot : Nat) (r : Record) : State :=
  let h := s.handleOf slot
  let s1 := s.modEngine fun e =>
    { e with
      freeSlots := e.freeSlots.tail
      records := e.records.put slot r
      binIndex := e.binIndex.put r.bin slot }
  let s2 := if s1.liveCount = Config.capacityMark ∧ s.liveCount + 1 = Config.capacityMark then s1.capacityEdge else s1
  let s3 := match r.route with
    | some route => s2.planUp route.plan
    | none => s2
  s3.setParty n (some (h, .carrier))

/-- DECLARE (R56 to R58). -/
def declareRequest (bin : Word) (cls zone plan wave priority : Byte) (n : Nat) (s : State) : State × Answer :=
  if ((s.robot n).bind (·.party)).isSome then (s, refuse .robotBusy)
  else
    match ThermalClass.ofByte cls with
    | none => (s, refuse .badField)
    | some c =>
      if bin = 0 ∨ zone.toNat > 15 then (s, refuse .badField)
      else
        let planned := if plan = 255 then none else some plan.toNat
        if (planned.map fun k => (s.plans.look k).isNone) = some true then (s, refuse .badPlan)
        else if (s.engine.binIndex.look bin.toNat).isSome then (s, refuse .duplicate)
        else
          match s.engine.freeSlots with
          | [] => (s, refuse .tableFull)
          | slot :: _ =>
            let prio := min 3 priority.toNat
            let m := s.matchRule (declareKey c zone.toNat prio planned.isSome wave)
            let r := newRecord s n bin.toNat c zone.toNat planned wave prio m
            let h := s.handleOf slot
            let s1 := s.takeRule m
              (fun detail => recordNotice .ruleMatch h r (some n) none zone.toNat detail) false
            let s2 := s1.openRecord n slot r
            (s2, accept (be16 h.wire ++ [byteOf r.priority, byteOf r.hopLimit] ++ be16 (halfOf r.budget)))

/-! ## BOOK -/

/-- The accepted BOOK's step (R60, R61). -/
def State.bookRecord (s : State) (n : Nat) (l : Link) (h : Handle) (r : Record) (cellNo : Nat) (receiver : Option Nat)
    (m : Option (Nat × Rule)) : State :=
  let s1 := s.modCell cellNo fun c =>
    { c with
      reserved := c.reserved + 1
      admissions := if c.state = .draining then c.admissions - 1 else c.admissions }
  let (s2, timing) := s1.startTiming h .booking l (s.ports.robotLink l).bookWindow
  let s3 := s2.putRecord h.slot
    { r with
      priority := max r.priority ((m.map (·.2.floor)).getD 0)
      custody := .booked n cellNo receiver
        (m.bind fun p => if p.2.overrides then some p.2.overrideMask else none) timing }
  s3.closeCheck cellNo

/-- Check 7 of BOOK: a planned record's cell is in the cell group of its current leg (R59, R124). -/
def State.inLeg (s : State) (r : Record) (c : Cell) : Bool :=
  match r.route with
  | none => true
  | some route =>
    match s.legOf route with
    | some leg => c.groups.getLsbD leg.group
    | none => false

/-- BOOK (R59 to R62). -/
def bookRequest (l : Link) (handle cell receiver : Half) (n : Nat) (s : State) : State × Answer :=
  if cell.toNat > 1023 ∨ receiver.toNat > 1023 then (s, refuse .badField)
  else
    withParty 0x02 .carried true handle n s fun h r =>
      if ¬ r.hops < r.hopLimit then (s, refuse .hopLimit)
      else
        match s.cell cell.toNat with
        | none => (s, refuse .cellUnknown)
        | some c =>
          if c.state = .closed ∨ (c.state = .draining ∧ c.admissions = 0) then (s, refuse .cellClosed)
          else if !s.inLeg r c then (s, refuse .notInLeg)
          else if ¬ c.stack.length + c.reserved < c.capacity then (s, refuse .cellFull)
          else
            let m := s.matchRule (bookKey r c.zone)
            let denied := (m.map (·.2.deny)).getD false
            let s1 := s.takeRule m
              (fun detail => recordNotice .ruleMatch h r (some n) (some cell.toNat) c.zone detail) denied
            if denied then (s1, refuse .policy)
            else
              let s2 := s1.bookRecord n l h r cell.toNat (robotOrNone receiver.toNat) m
              (s2, accept (be16 h.wire ++ be16 cell ++
                [byteOf c.stack.length, byteOf (s.ports.robotLink l).bookWindow, boolByte (!s.linkUp l)]))

/-! ## UNBOOK -/

/-- A booking ends without a SETDOWN: the place is given back, the record is CARRIED by its carrier, and the close check
runs (R63, R141). -/
def State.endBooking (s : State) (h : Handle) (r : Record) (carrier cellNo : Nat) (lapsed : Option Nat) : State :=
  (((s.disarm h).unreserve cellNo).putRecord h.slot { r with custody := .carried carrier lapsed }).closeCheck cellNo

/-- The state code of a cell in a reply or detail (R63, R142). -/
def State.cellStateCode (s : State) (cellNo : Nat) : Byte := ((s.cell cellNo).map (·.state.code)).getD 0

/-- UNBOOK (R63). -/
def unbookRequest (handle : Half) (n : Nat) (s : State) : State × Answer :=
  withParty 0x03 .booked true handle n s fun h r =>
    match r.custody with
    | .booked carrier cellNo .. =>
      let s1 := s.endBooking h r carrier cellNo none
      (s1, accept (be16 h.wire ++ [s1.cellStateCode cellNo]))
    | _ => (s, refuse .wrongState)

/-! ## SETDOWN -/

/-- Whether the top bin of a cell is CLAIMED (R35). -/
def State.topClaimed (s : State) (cellNo : Nat) : Bool :=
  match (s.cellTop cellNo).bind s.recordOf with
  | some r => r.custody.state == .claimed
  | none => false

/-- The receiver mask SETDOWN gives: the override, else the current leg's, else the cell's accept mask (R14). -/
def State.setdownMask (s : State) (r : Record) (cellNo : Nat) (ov : Option Byte) : Byte :=
  match ov with
  | some m => m
  | none =>
    match r.route.bind s.legOf with
    | some leg => leg.mask
    | none => ((s.cell cellNo).map (·.accept)).getD 0

/-- The accepted SETDOWN's step (R34, R65, R99). -/
def State.stageRecord (s : State) (h : Handle) (r : Record) (carrier cellNo : Nat) (receiver : Option Nat)
    (mask : Byte) : State :=
  let seq := s.engine.stageSeq
  let zone := s.cellZone cellNo
  let top := s.cellTop cellNo
  let s1 := s.modEngine fun e => { e with stageSeq := e.stageSeq + 1 }
  let s2 := match top with
    | some t => s1.leave t
    | none => s1
  let s3 := s2.modCell cellNo fun c => { c with stack := c.stack ++ [h], reserved := c.reserved - 1 }
  let s4 := (s3.disarm h).setParty carrier none
  let s5 := s4.putRecord h.slot
    { r with presentZone := zone, custody := .staged ⟨carrier, cellNo, seq, mask, receiver⟩ none }
  (s5.enter h mask r.priority seq).countEvent .staged zone 0

/-- SETDOWN (R64 to R66). -/
def setdownRequest (handle : Half) (n : Nat) (s : State) : State × Answer :=
  withParty 0x04 .booked true handle n s fun h r =>
    match r.custody with
    | .booked carrier cellNo receiver ov _ =>
      if s.topClaimed cellNo then (s, refuse .coversClaim)
      else
        let mask := s.setdownMask r cellNo ov
        let s1 := s.stageRecord h r carrier cellNo receiver mask
        (s1, accept (be16 h.wire ++ [smallField (s1.position cellNo h), mask] ++ be32 s.engine.stageSeq))
    | _ => (s, refuse .wrongState)

/-! ## CLAIM and SEEK -/

/-- The effective designated receiver: the one stored, when it is enrolled (R106). -/
def State.effectiveReceiver (s : State) (spot : Spot) : Option Nat :=
  spot.receiver.filter fun d => (s.robot d).isSome

/-- The custody check of a cell for a robot and a record staged on it (R106). -/
def State.custodyCheck (s : State) (n : Nat) (spot : Spot) : Bool :=
  let group := ((s.robot n).map (·.group)).getD 0
  let inMask := spot.mask.getLsbD group
  match s.cell spot.cell with
  | none => true
  | some c =>
    match c.check with
    | .off => true
    | .group => inMask
    | .robot =>
      match s.effectiveReceiver spot with
      | some d => d = n
      | none => true
    | .combined =>
      match s.effectiveReceiver spot with
      | some d => d = n
      | none => inMask

/-- The step that grants a staged record to a robot (R68, R112). -/
def State.grant (s : State) (n : Nat) (l : Link) (h : Handle) (r : Record) (spot : Spot) : State :=
  let s1 := (s.leave h).setParty n (some (h, .claimant))
  let (s2, timing) := s1.startTiming h .claim l (s.ports.robotLink l).claimWindow
  s2.putRecord h.slot { r with custody := .claimed spot n timing }

/-- The reply to an accepted CLAIM or SEEK, given the state after the grant (R68, R71). -/
def grantReply (s : State) (l : Link) (h : Handle) (r : Record) (spot : Spot) : Answer :=
  accept (be16 h.wire ++ be32 (wordOf r.bin) ++ be16 (halfOf spot.cell) ++
    [smallField (s.position spot.cell h), byteOf (s.ports.robotLink l).claimWindow, boolByte (!s.linkUp l)])

/-- The first two checks of CLAIM and SEEK: the robot is ACTIVE and party to nothing (R67, R70). -/
def State.grantable (s : State) (n : Nat) : Option Result :=
  match s.robot n with
  | none => some .unknownRobot
  | some e => if e.suspended then some .suspended else if e.party.isSome then some .robotBusy else none

/-- What follows a CUSTODY refusal of an explicit CLAIM (R69, R109). -/
def State.refuseCustody (s : State) (n : Nat) (h : Handle) (r : Record) (spot : Spot) : State :=
  match s.cell spot.cell with
  | none => s
  | some c =>
    let s1 := s.countEvent .claimRefused c.zone 0
    if c.report then
      s1.post .custody (recordNotice .custodyRefused h r (some n) (some spot.cell) c.zone c.check.code)
    else s1

/-- CLAIM (R67 to R69). -/
def claimRequest (l : Link) (handle : Half) (n : Nat) (s : State) : State × Answer :=
  match s.grantable n with
  | some res => (s, refuse res)
  | none =>
    match s.resolve handle with
    | none => (s, refuse .staleHandle)
    | some (h, r) =>
      match r.custody with
      | .staged spot _ =>
        if s.cellTop spot.cell ≠ some h then (s, refuse .buried)
        else if !s.custodyCheck n spot then (s.refuseCustody n h r spot, refuse .custody)
        else
          let s1 := s.grant n l h r spot
          (s1, grantReply s1 l h r spot)
      | _ => (s, refuse .wrongState)

/-- The two tests of the SEEK walk for a member of the queue, the designation and then the custody check; a member that
passes is given with its record and place (R110). -/
def State.seekTest (s : State) (n : Nat) (e : PickupEntry) : Option (Handle × Record × Spot) :=
  match s.recordOf e.handle with
  | none => none
  | some r =>
    match r.custody with
    | .staged spot _ =>
      let designation := match s.effectiveReceiver spot with
        | some d => decide (d = n)
        | none => true
      if designation && s.custodyCheck n spot then some (e.handle, r, spot) else none
    | _ => none

/-- The SEEK walk: the first member of the robot's group's queue that passes both tests (R110). -/
def State.seekWalk (s : State) (n : Nat) : Option (Handle × Record × Spot) :=
  (s.queueOf (((s.robot n).map (·.group)).getD 0)).findSome? (s.seekTest n)

/-- SEEK (R70, R71). -/
def seekRequest (l : Link) (n : Nat) (s : State) : State × Answer :=
  match s.grantable n with
  | some res => (s, refuse res)
  | none =>
    match s.seekWalk n with
    | none => (s, refuse .none)
    | some (h, r, spot) =>
      let s1 := s.grant n l h r spot
      (s1, grantReply s1 l h r spot)

/-! ## YIELD -/

/-- A claim ends without a TAKEUP: the record is STAGED in place and re-enters its queues, and the claimant is party to
nothing (R72, R143). -/
def State.endClaim (s : State) (h : Handle) (r : Record) (spot : Spot) (claimant : Nat) (lapsed : Option Nat) : State :=
  (((s.disarm h).setParty claimant none).putRecord h.slot { r with custody := .staged spot lapsed }).enter
    h spot.mask r.priority spot.seq

/-- YIELD (R72). -/
def yieldRequest (handle : Half) (n : Nat) (s : State) : State × Answer :=
  withParty 0x07 .claimed true handle n s fun h r =>
    match r.custody with
    | .claimed spot claimant _ =>
      let s1 := s.endClaim h r spot claimant none
      (s1, accept (be16 h.wire ++ [smallField (s1.position spot.cell h)]))
    | _ => (s, refuse .wrongState)

/-! ## TAKEUP -/

/-- The record after an accepted TAKEUP (R74). -/
def takenUp (r : Record) (claimant : Nat) : Record :=
  { r with
    hops := r.hops + 1
    route := r.route.map fun p => { p with leg := min 7 (p.leg + 1) }
    custody := .carried claimant none }

/-- The accepted TAKEUP's step (R37, R74, R75). -/
def State.takeupRecord (s : State) (h : Handle) (r : Record) (spot : Spot) (claimant : Nat) : State :=
  let zone := s.cellZone spot.cell
  let s1 := (s.disarm h).modRobot claimant fun e => { e with party := some (h, .carrier), misses := 0 }
  let s2 := s1.putRecord h.slot (takenUp r claimant)
  ((s2.unstack spot.cell h).countEvent .lifted zone 0).closeCheck spot.cell

/-- The next cell group a TAKEUP reports: none for free relay, or at the hop limit (R75, R124). -/
def State.nextGroup (s : State) (r : Record) : Option Nat :=
  if r.hops = r.hopLimit then none else (r.route.bind s.legOf).map (·.group)

/-- TAKEUP (R73 to R75). -/
def takeupRequest (handle : Half) (n : Nat) (s : State) : State × Answer :=
  withParty 0x08 .claimed true handle n s fun h r =>
    match r.custody with
    | .claimed spot claimant _ =>
      let s1 := s.takeupRecord h r spot claimant
      let r1 := takenUp r claimant
      (s1, accept (be16 h.wire ++
        [byteOf r1.hops, byteOf r1.hopLimit, smallField (r1.route.map (·.leg)), smallField (s1.nextGroup r1)] ++
        be16 (halfOf r1.remaining)))
    | _ => (s, refuse .wrongState)

/-! ## FINISH -/

/-- FINISH (R76, R77). -/
def finishRequest (handle : Half) (outcome : Byte) (n : Nat) (s : State) : State × Answer :=
  withParty 0x09 .carried false handle n s fun h r =>
    if outcome ≠ 0 ∧ outcome ≠ 1 then (s, refuse .badField)
    else
      let s1 := s.retire h r
      let s2 := if r.overdue then
          s1.post .thermal (recordNotice .overdueFinished h r (some n) none r.presentZone outcome)
        else s1
      (s2, accept (be16 h.wire ++ [outcome, byteOf r.hops] ++ be16 (halfOf r.exposure) ++
        [flagByte [r.warned, r.overdue, r.rescued]]))

/-! ## Queries -/

/-- The reply body of QUERY-BIN (R78, R203). -/
def queryBinBody (s : State) (h : Handle) (r : Record) : List Byte :=
  be16 h.wire ++ [r.custody.state.code] ++ cellField r.custody.cell ++
    [smallField (s.recordPosition h r), byteOf r.priority] ++ be16 (halfOf r.remaining) ++
    [flagByte [r.warned, r.overdue, r.exempt, r.rescued, r.custody.isHeld]] ++ robotField r.custody.receiver ++
    [byteOf r.hops, smallField (r.route.map (·.leg))]

/-- The handle and record that the Bin Index finds for a bin ID (R6, R7). -/
def State.findBin (s : State) (bin : Word) : Option (Handle × Record) :=
  match s.engine.binIndex.look bin.toNat with
  | none => none
  | some slot => (s.engine.records.look slot).map fun r => (s.handleOf slot, r)

/-- QUERY-BIN (R78). -/
def queryBinRequest (bin : Word) (_ : Nat) (s : State) : State × Answer :=
  match s.findBin bin with
  | none => (s, refuse .none)
  | some (h, r) => (s, accept (queryBinBody s h r))

/-- The entry of one bin in a QUERY-CELL reply (R79, R203). -/
def stackEntry (s : State) (h : Handle) : List Byte :=
  match s.recordOf h with
  | none => []
  | some r => be16 h.wire ++ be32 (wordOf r.bin) ++ [r.custody.state.code, byteOf r.priority]

/-- QUERY-CELL (R79); bins are listed top first. -/
def queryCellRequest (cell : Half) (_ : Nat) (s : State) : State × Answer :=
  if cell.toNat > 1023 then (s, refuse .badField)
  else
    match s.cell cell.toNat with
    | none => (s, refuse .cellUnknown)
    | some c =>
      (s, accept ([c.state.code, byteOf c.capacity, byteOf c.reserved, byteOf c.admissions, byteOf c.stack.length] ++
        c.stack.reverse.flatMap (stackEntry s)))

/-! ## The commands -/

/-- The DECLARE command. -/
def execDeclare (l : Link) (h : Hdr) (bin : Word) (cls zone plan wave priority : Byte) (s : State) :
    Host.Outcome State Fault Refusal :=
  .next (s.serve (.declare l h bin cls zone plan wave priority)
    (robotService l h (declareRequest bin cls zone plan wave priority)))

/-- The BOOK command. -/
def execBook (l : Link) (h : Hdr) (handle cell receiver : Half) (s : State) : Host.Outcome State Fault Refusal :=
  .next (s.serve (.book l h handle cell receiver) (robotService l h (bookRequest l handle cell receiver)))

/-- The UNBOOK command. -/
def execUnbook (l : Link) (h : Hdr) (handle : Half) (s : State) : Host.Outcome State Fault Refusal :=
  .next (s.serve (.unbook l h handle) (robotService l h (unbookRequest handle)))

/-- The SETDOWN command. -/
def execSetdown (l : Link) (h : Hdr) (handle : Half) (s : State) : Host.Outcome State Fault Refusal :=
  .next (s.serve (.setdown l h handle) (robotService l h (setdownRequest handle)))

/-- The CLAIM command. -/
def execClaim (l : Link) (h : Hdr) (handle : Half) (s : State) : Host.Outcome State Fault Refusal :=
  .next (s.serve (.claim l h handle) (robotService l h (claimRequest l handle)))

/-- The SEEK command. -/
def execSeek (l : Link) (h : Hdr) (s : State) : Host.Outcome State Fault Refusal :=
  .next (s.serve (.seek l h) (robotService l h (seekRequest l)))

/-- The YIELD command. -/
def execYield (l : Link) (h : Hdr) (handle : Half) (s : State) : Host.Outcome State Fault Refusal :=
  .next (s.serve (.yieldBin l h handle) (robotService l h (yieldRequest handle)))

/-- The TAKEUP command. -/
def execTakeup (l : Link) (h : Hdr) (handle : Half) (s : State) : Host.Outcome State Fault Refusal :=
  .next (s.serve (.takeup l h handle) (robotService l h (takeupRequest handle)))

/-- The FINISH command. -/
def execFinish (l : Link) (h : Hdr) (handle : Half) (outcome : Byte) (s : State) : Host.Outcome State Fault Refusal :=
  .next (s.serve (.finish l h handle outcome) (robotService l h (finishRequest handle outcome)))

/-- The QUERY-BIN command. -/
def execQueryBin (l : Link) (h : Hdr) (bin : Word) (s : State) : Host.Outcome State Fault Refusal :=
  .next (s.serve (.queryBin l h bin) (robotService l h (queryBinRequest bin)))

/-- The QUERY-CELL command. -/
def execQueryCell (l : Link) (h : Hdr) (cell : Half) (s : State) : Host.Outcome State Fault Refusal :=
  .next (s.serve (.queryCell l h cell) (robotService l h (queryCellRequest cell)))

end Sys2Proof.Machine
end

