-- ==== Sys2Proof/Machine/Cells.lean ====
section
/-! DEFINITION. The cell management requests (section 2.5). -/

namespace Sys2Proof.Machine

/-- The occupancy of a cell: stack length plus reserved count (section 2.1). -/
def Cell.occupancy (c : Cell) : Nat := c.stack.length + c.reserved

/-- An answer that carries the cell summary as the cell then stands (R42). -/
def withSummary (s : State) (n : Nat) (r : Result) : State × Answer := (s, ⟨r, [cellSummary s n]⟩)

/-- The first check of CELL-WRITE: every field within its range (R43). -/
def cellFieldsFit (cell : Half) (b : CellBytes) : Bool :=
  cell.toNat ≤ 1023 && b.column.toNat ≤ 127 && b.row.toNat ≤ 127 && b.zone.toNat ≤ 15 && 1 ≤ b.capacity.toNat &&
    b.capacity.toNat ≤ 4 && b.accept != 0

/-- Whether another defined cell has this position (R28, R43). -/
def State.positionTaken (s : State) (n column row : Nat) : Bool :=
  s.engine.cells.any fun p => p.1 != n && p.2.column == column && p.2.row == row

/-- The third check of CELL-WRITE: what an occupied cell does not let change (R43). -/
def occupiedRefuses (c : Cell) (b : CellBytes) : Bool :=
  c.occupancy > 0 &&
    (b.zone.toNat != c.zone || b.column.toNat != c.column || b.row.toNat != c.row || b.capacity.toNat < c.occupancy)

/-- The entry a CELL-WRITE writes: the configuration, with state, admissions, stack and reserved count kept, or those of a
new cell (R44). -/
def writtenCell (old : Option Cell) (b : CellBytes) (check : CheckMode) : Cell :=
  { column := b.column.toNat
    row := b.row.toNat
    zone := b.zone.toNat
    capacity := b.capacity.toNat
    accept := b.accept
    check := check
    report := flagAt b.flags 0
    groups := b.groups
    state := (old.map (·.state)).getD .opened
    admissions := (old.map (·.admissions)).getD 0
    stack := (old.map (·.stack)).getD []
    reserved := (old.map (·.reserved)).getD 0 }

/-- CELL-WRITE (R43, R44). -/
def cellWriteRequest (cell : Half) (b : CellBytes) (s : State) : State × Answer :=
  let n := cell.toNat
  match CheckMode.ofByte b.mode with
  | none => (s, refuse .badField)
  | some check =>
    if !cellFieldsFit cell b then (s, refuse .badField)
    else if s.positionTaken n b.column.toNat b.row.toNat then withSummary s n .duplicate
    else if ((s.cell n).map fun c => occupiedRefuses c b) = some true then withSummary s n .cellBusy
    else withSummary (s.putCell n (writtenCell (s.cell n) b check)) n .ok

/-- CELL-DELETE (R45). -/
def cellDeleteRequest (cell : Half) (s : State) : State × Answer :=
  let n := cell.toNat
  if n > 1023 then (s, refuse .badField)
  else
    match s.cell n with
    | none => withSummary s n .cellUnknown
    | some c =>
      if c.occupancy > 0 then withSummary s n .cellBusy
      else withSummary (s.modEngine fun e => { e with cells := e.cells.del n }) n .ok

/-- CELL-DRAIN (R46). -/
def cellDrainRequest (cell : Half) (admissions : Byte) (s : State) : State × Answer :=
  let n := cell.toNat
  if n > 1023 ∨ admissions.toNat > 15 then (s, refuse .badField)
  else
    match s.cell n with
    | none => withSummary s n .cellUnknown
    | some c =>
      if c.state = .closed then withSummary s n .wrongState
      else withSummary ((s.putCell n { c with state := .draining, admissions := admissions.toNat }).closeCheck n) n .ok

/-- CELL-REOPEN (R47). -/
def cellReopenRequest (cell : Half) (s : State) : State × Answer :=
  let n := cell.toNat
  if n > 1023 then (s, refuse .badField)
  else
    match s.cell n with
    | none => withSummary s n .cellUnknown
    | some c =>
      if c.state = .opened then withSummary s n .wrongState
      else withSummary (s.putCell n { c with state := .opened, admissions := 0 }) n .ok

/-- The CELL-WRITE command. -/
def execCellWrite (h : Hdr) (cell : Half) (config : CellBytes) (s : State) : Host.Outcome State Fault Refusal :=
  .next (s.serve (.cellWrite h cell config) (hostService (cellWriteRequest cell config)))

/-- The CELL-DELETE command. -/
def execCellDelete (h : Hdr) (cell : Half) (s : State) : Host.Outcome State Fault Refusal :=
  .next (s.serve (.cellDelete h cell) (hostService (cellDeleteRequest cell)))

/-- The CELL-DRAIN command. -/
def execCellDrain (h : Hdr) (cell : Half) (admissions : Byte) (s : State) : Host.Outcome State Fault Refusal :=
  .next (s.serve (.cellDrain h cell admissions) (hostService (cellDrainRequest cell admissions)))

/-- The CELL-REOPEN command. -/
def execCellReopen (h : Hdr) (cell : Half) (s : State) : Host.Outcome State Fault Refusal :=
  .next (s.serve (.cellReopen h cell) (hostService (cellReopenRequest cell)))

end Sys2Proof.Machine
end

