-- ==== Sys2Proof/Machine/Roster.lean ====
section
/-! DEFINITION. The roster requests (section 4.2) and MISS-LIMIT (R93). -/

namespace Sys2Proof.Machine

/-- An answer that carries the roster entry as it then stands (section 4.2). -/
def withEntry (s : State) (n : Nat) (r : Result) : State × Answer := (s, ⟨r, [rosterBlock s n]⟩)

/-- Whether a robot number has a roster entry (R81). -/
def robotInRange (n : Nat) : Bool := 1 ≤ n && n ≤ 1023

/-- ROBOT-ENROL (R86). -/
def robotEnrolRequest (robot : Half) (group : Byte) (s : State) : State × Answer :=
  let n := robot.toNat
  if !robotInRange n || group.toNat > 7 then (s, refuse .badField)
  else
    match s.robot n with
    | none => withEntry (s.putRobot n ⟨false, group.toNat, none, none, 0⟩) n .ok
    | some e => withEntry (s.putRobot n { e with group := group.toNat }) n .ok

/-- ROBOT-WITHDRAW (R87). -/
def robotWithdrawRequest (robot : Half) (s : State) : State × Answer :=
  let n := robot.toNat
  if !robotInRange n then (s, refuse .badField)
  else
    match s.robot n with
    | none => withEntry s n .unknownRobot
    | some e =>
      if e.party.isSome then withEntry s n .inCustody
      else withEntry (s.modEngine fun g => { g with roster := g.roster.del n }) n .ok

/-- ROBOT-SUSPEND (R88). -/
def robotSuspendRequest (robot : Half) (s : State) : State × Answer :=
  let n := robot.toNat
  if !robotInRange n then (s, refuse .badField)
  else
    match s.robot n with
    | none => withEntry s n .unknownRobot
    | some e => withEntry (s.putRobot n { e with suspended := true }) n .ok

/-- ROBOT-RESUME (R89). -/
def robotResumeRequest (robot : Half) (s : State) : State × Answer :=
  let n := robot.toNat
  if !robotInRange n then (s, refuse .badField)
  else
    match s.robot n with
    | none => withEntry s n .unknownRobot
    | some e => withEntry (s.putRobot n { e with suspended := false, misses := 0 }) n .ok

/-- ROBOT-READ (R90). -/
def robotReadRequest (robot : Half) (s : State) : State × Answer :=
  if !robotInRange robot.toNat then (s, refuse .badField) else withEntry s robot.toNat .ok

/-- MISS-LIMIT (R93). -/
def missLimitRequest (limit : Byte) (s : State) : State × Answer :=
  if limit.toNat > 7 then (s, refuse .badField)
  else (s.modEngine fun e => { e with missLimit := limit.toNat }, accept [byteOf s.engine.missLimit, limit])

/-- The ROBOT-ENROL command. -/
def execRobotEnrol (h : Hdr) (robot : Half) (group : Byte) (s : State) : Host.Outcome State Fault Refusal :=
  .next (s.serve (.robotEnrol h robot group) (hostService (robotEnrolRequest robot group)))

/-- The ROBOT-WITHDRAW command. -/
def execRobotWithdraw (h : Hdr) (robot : Half) (s : State) : Host.Outcome State Fault Refusal :=
  .next (s.serve (.robotWithdraw h robot) (hostService (robotWithdrawRequest robot)))

/-- The ROBOT-SUSPEND command. -/
def execRobotSuspend (h : Hdr) (robot : Half) (s : State) : Host.Outcome State Fault Refusal :=
  .next (s.serve (.robotSuspend h robot) (hostService (robotSuspendRequest robot)))

/-- The ROBOT-RESUME command. -/
def execRobotResume (h : Hdr) (robot : Half) (s : State) : Host.Outcome State Fault Refusal :=
  .next (s.serve (.robotResume h robot) (hostService (robotResumeRequest robot)))

/-- The ROBOT-READ command. -/
def execRobotRead (h : Hdr) (robot : Half) (s : State) : Host.Outcome State Fault Refusal :=
  .next (s.serve (.robotRead h robot) (hostService (robotReadRequest robot)))

/-- The MISS-LIMIT command. -/
def execMissLimit (h : Hdr) (limit : Byte) (s : State) : Host.Outcome State Fault Refusal :=
  .next (s.serve (.missLimit h limit) (hostService (missLimitRequest limit)))

end Sys2Proof.Machine
end

