-- ==== Sys2Proof/Machine/Plans.lean ====
section
/-! DEFINITION. The Plan Store's requests (section 6.1). -/

namespace Sys2Proof.Machine

/-- An answer that carries the plan block as the plan then stands (R121). -/
def withPlan (s : State) (n : Nat) (r : Result) : State × Answer := (s, ⟨r, [planBlock s n]⟩)

/-- A plan's reference count; an undefined plan has 0 (R117, R118). -/
def State.planRefs (s : State) (n : Nat) : Nat := ((s.plans.look n).map (·.refs)).getD 0

/-- The first check of PLAN-WRITE, with the agreement of leg count and body length (R119, R203). -/
def planFieldsFit (plan legCount : Byte) (legs : List (Byte × Byte)) : Bool :=
  plan.toNat ≤ 254 && 1 ≤ legCount.toNat && legCount.toNat ≤ 8 && legs.length == legCount.toNat &&
    legs.all fun p => p.1.toNat ≤ 31 && p.2 != 0

/-- PLAN-WRITE (R119). -/
def planWriteRequest (plan legCount : Byte) (legs : List (Byte × Byte)) (s : State) : State × Answer :=
  let n := plan.toNat
  if !planFieldsFit plan legCount legs then (s, refuse .badField)
  else if s.planRefs n > 0 then withPlan s n .planInUse
  else withPlan (s.modPlans fun t => t.put n ⟨legs.map fun p => ⟨p.1.toNat, p.2⟩, 0⟩) n .ok

/-- PLAN-CLEAR (R120). -/
def planClearRequest (plan : Byte) (s : State) : State × Answer :=
  let n := plan.toNat
  if n > 254 then (s, refuse .badField)
  else
    match s.plans.look n with
    | none => withPlan s n .badPlan
    | some p => if p.refs > 0 then withPlan s n .planInUse else withPlan (s.modPlans fun t => t.del n) n .ok

/-- PLAN-READ (R121). -/
def planReadRequest (plan : Byte) (s : State) : State × Answer :=
  if plan.toNat > 254 then (s, refuse .badField) else withPlan s plan.toNat .ok

/-- The PLAN-WRITE command. -/
def execPlanWrite (h : Hdr) (plan legCount : Byte) (legs : List (Byte × Byte)) (s : State) :
    Host.Outcome State Fault Refusal :=
  .next (s.serve (.planWrite h plan legCount legs) (hostService (planWriteRequest plan legCount legs)))

/-- The PLAN-CLEAR command. -/
def execPlanClear (h : Hdr) (plan : Byte) (s : State) : Host.Outcome State Fault Refusal :=
  .next (s.serve (.planClear h plan) (hostService (planClearRequest plan)))

/-- The PLAN-READ command. -/
def execPlanRead (h : Hdr) (plan : Byte) (s : State) : Host.Outcome State Fault Refusal :=
  .next (s.serve (.planRead h plan) (hostService (planReadRequest plan)))

end Sys2Proof.Machine
end

