-- ==== Sys2Proof/Machine/Thermal.lean ====
section
/-! DEFINITION. The Dwell Unit (chapter 8): zone, class and dwell requests, the period timer, the accrual pass and its
arithmetic. -/

namespace Sys2Proof.Machine

/-- Write a zone's entry. -/
def State.putZone (s : State) (n : Nat) (z : Zone) : State :=
  s.modDwell fun d => { d with zones := d.zones.putD .reset n z }

/-- An answer that carries the zone block as the zone then stands (R153). -/
def withZone (s : State) (n : Nat) (r : Result) : State × Answer := (s, ⟨r, [zoneBlock s n]⟩)

/-- A reading or temperature brought into -120 to 120 (R154, R155). -/
def clampTemperature (t : Int) : Int := max (-120) (min 120 t)

/-- A notice about a zone; `post` writes its time. -/
def zoneNotice (kind : NoticeKind) (zone : Nat) (detail : Byte) : Notice :=
  ⟨kind, 0, none, none, none, none, some zone, detail⟩

/-- ZONE-SENSE (R154). -/
def zoneSenseRequest (zone : Byte) (reading : Half) (s : State) : State × Answer :=
  let n := zone.toNat
  if n > 15 then (s, refuse .badField)
  else
    let z := s.zone n
    if !z.sensor then withZone s n .mode
    else
      let t := clampTemperature reading.toInt
      let s1 := s.putZone n { z with temperature := t, passes := 0, stale := false }
      let s2 := if z.stale then s1.post .thermal (zoneNotice .zoneFresh n (signedByte t)) else s1
      withZone s2 n .ok

/-- ZONE-SET (R155). -/
def zoneSetRequest (zone : Byte) (temperature : Half) (s : State) : State × Answer :=
  let n := zone.toNat
  if n > 15 then (s, refuse .badField)
  else
    let z := s.zone n
    if z.sensor then withZone s n .mode
    else withZone (s.putZone n { z with temperature := clampTemperature temperature.toInt }) n .ok

/-- The zone after a ZONE-MODE (R156). -/
def Zone.withFeed (z : Zone) (sensor : Bool) : Zone :=
  if z.sensor = sensor then z
  else if sensor then { z with sensor := true, passes := 0 }
  else { z with sensor := false, stale := false }

/-- ZONE-MODE (R156): mode 0 is SENSOR, 1 is MANUAL (R200). -/
def zoneModeRequest (zone mode : Byte) (s : State) : State × Answer :=
  let n := zone.toNat
  if n > 15 ∨ mode.toNat > 1 then (s, refuse .badField)
  else withZone (s.putZone n ((s.zone n).withFeed (decide (mode = 0)))) n .ok

/-- ZONE-READ (R157). -/
def zoneReadRequest (zone : Byte) (s : State) : State × Answer :=
  if zone.toNat > 15 then (s, refuse .badField) else withZone s zone.toNat .ok

/-- The ranges of a CLASS-WRITE's fields (R160). -/
def classFieldsFit (b : ClassBytes) : Bool :=
  decide (-120 ≤ b.threshold.toInt) && decide (b.threshold.toInt ≤ 120) && b.base.toNat ≤ 15 && 1 ≤ b.budget.toNat &&
    1 ≤ b.hopLimit.toNat && b.hopLimit.toNat ≤ 15

/-- The parameters a CLASS-WRITE carries; 255 names no rescue plan (R160). -/
def ClassBytes.params (b : ClassBytes) : ClassParams :=
  ⟨b.threshold.toInt, b.coefficient.toNat, b.base.toNat, b.budget.toNat, b.hopLimit.toNat,
    if b.rescue = 255 then none else some b.rescue.toNat⟩

/-- CLASS-WRITE (R160). -/
def classWriteRequest (cls : Byte) (b : ClassBytes) (s : State) : State × Answer :=
  match ThermalClass.ofByte cls with
  | none => (s, refuse .badField)
  | some c =>
    if !classFieldsFit b then (s, refuse .badField)
    else
      let s1 := s.modDwell fun d => d.setParams c (ClassBytes.params b)
      (s1, accept (classBlock s1 c))

/-- CLASS-READ (R160). -/
def classReadRequest (cls : Byte) (s : State) : State × Answer :=
  match ThermalClass.ofByte cls with
  | none => (s, refuse .badField)
  | some c => (s, accept (classBlock s c))

/-- The period timer starts: its next expiry falls P seconds later (R163). -/
def DwellUnit.startTimer (d : DwellUnit) : DwellUnit := { d with timer := some (d.period * 1000) }

/-- DWELL-SET (R162). -/
def dwellSetRequest (p l m : Byte) (s : State) : State × Answer :=
  if 1 ≤ p.toNat ∧ p.toNat ≤ 60 ∧ 1 ≤ l.toNat ∧ l.toNat ≤ 15 ∧ m.toNat ≤ 20 then
    let s1 := s.modDwell fun d => { d with period := p.toNat, staleLimit := l.toNat, staleMargin := m.toNat }
    let s2 := if s.engine.mode = .run then s1.modDwell DwellUnit.startTimer else s1
    (s2, accept [p, l, m])
  else (s, refuse .badField)

/-! ## The accrual pass -/

/-- The passes count of a SENSOR zone after a pass start (R158). -/
def agedPasses (z : Zone) : Nat := min 15 (z.passes + 1)

/-- Whether a pass start makes a zone STALE (R158). -/
def turnsStale (limit : Nat) (z : Zone) : Bool := z.sensor && limit ≤ agedPasses z && !z.stale

/-- A zone after a pass start (R158). -/
def agedZone (limit : Nat) (z : Zone) : Zone :=
  if z.sensor then { z with passes := agedPasses z, stale := z.stale || decide (limit ≤ agedPasses z) } else z

/-- The zones 0 to 15. -/
def zoneNumbers : List Nat := List.range 16

/-- The zones that a pass start makes STALE, in the order their notices are posted, which is free (R158, log 10). -/
def State.newlyStale (s : State) : List Nat :=
  let rank := Config.staleRank s.timer.clock.toNat s.dwell.passes.toNat
  (zoneNumbers.filter fun n => turnsStale s.dwell.staleLimit (s.zone n)).insertionSort
    fun x y => rank x < rank y ∨ (rank x = rank y ∧ x ≤ y)

/-- The start step of a pass: the SENSOR zones age, and each zone that becomes STALE posts ZONE_STALE (R158). -/
def State.ageZones (s : State) : State :=
  let s1 := zoneNumbers.foldl (fun t n => t.putZone n (agedZone s.dwell.staleLimit (s.zone n))) s
  s.newlyStale.foldl (fun t n => t.post .thermal (zoneNotice .zoneStale n (byteOf (agedPasses (s.zone n))))) s1

/-- A pass begins with its start step, its cursor at slot 0 (R164, R165). -/
def State.beginPass (s : State) : State := s.ageZones.modDwell fun d => { d with cursor := some 0 }

/-- The pass in flight is abandoned and the pending pass dropped (R167). -/
def DwellUnit.abandonPass (d : DwellUnit) : DwellUnit := { d with cursor := none, passPending := false }

/-- The period timer expires: restarted for the next period; a pass begins, becomes pending, or merges (R163, R164). The
command has its effect when the timer has run out (log 4). -/
def State.periodExpiry (s : State) : State :=
  if s.dwell.timer = some 0 then
    let s1 := s.modDwell DwellUnit.startTimer
    if s.dwell.cursor.isSome then s1.modDwell fun d => { d with passPending := true } else s1.beginPass
  else s

/-- The excess of a zone's effective temperature over a class's threshold (R168). -/
def excess (margin : Nat) (z : Zone) (p : ClassParams) : Int := effective margin z - p.threshold

/-- The accrual of one visit (R169). -/
def accrual (exempt : Bool) (e : Int) (p : ClassParams) : Nat :=
  if exempt = true ∨ e ≤ 0 then 0 else min 4095 (p.base + p.coefficient * (e.toNat * e.toNat) / 64)

/-- The accrual of a record at a visit in a state (R168, R169). -/
def State.accrualOf (s : State) (r : Record) : Nat :=
  let p := s.dwell.params r.cls
  accrual r.exempt (excess s.dwell.staleMargin (s.zone r.presentZone) p) p

/-- The record after a visit: exposure, then the warned and overdue flags (R169 to R171). -/
def Record.accrued (r : Record) (a : Nat) : Record :=
  let x := min 65535 (r.exposure + a)
  { r with
    exposure := x
    warned := r.warned || decide (r.budget * 3 / 4 ≤ x)
    overdue := r.overdue || decide (r.budget ≤ x) }

/-- A DWELL_WARN or DWELL_OVERDUE notice (R170, R171). -/
def dwellNotice (kind : NoticeKind) (h : Handle) (r : Record) : Notice :=
  recordNotice kind h r r.custody.party r.custody.cell r.presentZone r.cls.code

/-- The visit of a slot: nothing for a free one; a live record accrues, and its crossings post notices and raise the overdue
event (R165, R169 to R171). -/
def State.visit (s : State) (slot : Nat) : State :=
  match s.engine.records.look slot with
  | none => s
  | some r =>
    let a := s.accrualOf r
    let h := s.handleOf slot
    let r1 := r.accrued a
    let s1 := s.putRecord slot r1
    let s2 := if a > 0 then s1.countEvent .accrual r.presentZone a else s1
    let s3 := if r1.warned && !r.warned then s2.post .thermal (dwellNotice .dwellWarn h r) else s2
    if r1.overdue && !r.overdue then
      (s3.post .thermal (dwellNotice .dwellOverdue h r)).modEngine fun e => { e with overdues := e.overdues ++ [h] }
    else s3

/-- After the visit of slot 2047 the pass ends, the count advances, and the pending pass begins (R164, R165). -/
def State.endPass (s : State) : State :=
  let s1 := s.modDwell fun d => { d with cursor := none, passes := d.passes + 1 }
  if s.dwell.passPending then (s1.modDwell fun d => { d with passPending := false }).beginPass else s1

/-- One visit of the pass in flight; nothing when none is (R165, log 21). -/
def State.accrualStep (s : State) : State :=
  match s.dwell.cursor with
  | none => s
  | some slot =>
    let s1 := s.visit slot
    if slot + 1 < Config.slots then s1.modDwell fun d => { d with cursor := some (slot + 1) } else s1.endPass

/-! ## The commands -/

/-- The CLASS-WRITE command. -/
def execClassWrite (h : Hdr) (cls : Byte) (params : ClassBytes) (s : State) : Host.Outcome State Fault Refusal :=
  .next (s.serve (.classWrite h cls params) (hostService (classWriteRequest cls params)))

/-- The CLASS-READ command. -/
def execClassRead (h : Hdr) (cls : Byte) (s : State) : Host.Outcome State Fault Refusal :=
  .next (s.serve (.classRead h cls) (hostService (classReadRequest cls)))

/-- The ZONE-MODE command. -/
def execZoneMode (h : Hdr) (zone mode : Byte) (s : State) : Host.Outcome State Fault Refusal :=
  .next (s.serve (.zoneMode h zone mode) (hostService (zoneModeRequest zone mode)))

/-- The ZONE-SENSE command. -/
def execZoneSense (h : Hdr) (zone : Byte) (reading : Half) (s : State) : Host.Outcome State Fault Refusal :=
  .next (s.serve (.zoneSense h zone reading) (hostService (zoneSenseRequest zone reading)))

/-- The ZONE-SET command. -/
def execZoneSet (h : Hdr) (zone : Byte) (temperature : Half) (s : State) : Host.Outcome State Fault Refusal :=
  .next (s.serve (.zoneSet h zone temperature) (hostService (zoneSetRequest zone temperature)))

/-- The ZONE-READ command. -/
def execZoneRead (h : Hdr) (zone : Byte) (s : State) : Host.Outcome State Fault Refusal :=
  .next (s.serve (.zoneRead h zone) (hostService (zoneReadRequest zone)))

/-- The DWELL-SET command. -/
def execDwellSet (h : Hdr) (period staleLimit staleMargin : Byte) (s : State) : Host.Outcome State Fault Refusal :=
  .next (s.serve (.dwellSet h period staleLimit staleMargin)
    (hostService (dwellSetRequest period staleLimit staleMargin)))

/-- The ACCRUAL_PERIOD_EXPIRY event. -/
def execAccrualPeriodExpiry (s : State) : Host.Outcome State Fault Refusal := .next s.periodExpiry

/-- The ACCRUAL_VISIT event. -/
def execAccrualVisit (s : State) : Host.Outcome State Fault Refusal := .next s.accrualStep

end Sys2Proof.Machine
end

