-- ==== Sys2Proof/Machine/Links.lean ====
section
/-! DEFINITION. Frames arriving, link events, the link settings, and the passage of a millisecond (chapter 10, R134). -/

namespace Sys2Proof.Machine

/-- A link event: the records of the link's parties are brought into line, and LINK sees an edge (R195). The link's new state
is already written. -/
def State.linkEvent (s : State) (l : Link) (up : Bool) : State := (s.alignLink l up).linkEdge

/-- The effects of a good frame on a robot link: silence timer restarted, mirror taken, a DOWN link becomes UP (R190). -/
def State.goodOnLink (s : State) (l : Link) (f : Frame) : State :=
  let s1 := s.modPorts fun p => p.modLink l fun k =>
    { k with silence := some (k.silenceLimit * 250), mirror := flagAt f.flags 0, up := true }
  if s.linkUp l then s1 else s1.linkEvent l true

/-- What a good frame does: its link effects, and unless it is idle the port checks (R189 to R191). -/
def State.goodArrival (s : State) (f : Frame) : State :=
  let s1 := match f.port with
    | .link l => s.goodOnLink l f
    | .host => s
  if f.kind = 0 then s1 else s1.present f

/-- A run of bytes arrives on a port; one that is not good is discarded (R189). -/
def State.frameArrives (s : State) (port : Port) (bytes : List Byte) : State :=
  match goodFrame port bytes with
  | none => s
  | some f => s.goodArrival f

/-- The silence timer of an UP link expires and the link goes DOWN; the mirror of a DOWN link reads 0 (R195, R196). The
command has its effect when the timer has run out (log 4). -/
def State.silenceExpires (s : State) (l : Link) : State :=
  if s.linkUp l ∧ (s.ports.robotLink l).silence = some 0 then
    (s.modPorts fun p => p.modLink l fun k => { k with up := false, silence := none, mirror := false }).linkEvent l false
  else s

/-- A written window: 0 is taken as 1 (R198). -/
def windowOf (b : Byte) : Nat := max 1 b.toNat

/-- A written silence limit: 0 is taken as 1, above 40 as 40 (R198). -/
def silenceLimitOf (b : Byte) : Nat := max 1 (min 40 b.toNat)

/-- LINK-SET (R198). -/
def linkSetRequest (selector booking claim silence : Byte) (s : State) : State × Answer :=
  match selectorOf selector with
  | none => (s, refuse .badField)
  | some (links, shown) =>
    let write := fun k : RobotLink =>
      { k with
        bookWindow := windowOf booking
        claimWindow := windowOf claim
        silenceLimit := silenceLimitOf silence }
    let s1 := s.modPorts fun p => links.foldl (fun p l => p.modLink l write) p
    (s1, accept (linkBlock s1 shown))

/-- LINK-READ (R199). -/
def linkReadRequest (selector : Byte) (s : State) : State × Answer :=
  match selectorOf selector with
  | none => (s, refuse .badField)
  | some (_, shown) => (s, accept (linkBlock s shown))

/-- A running timer loses a millisecond (log 4). -/
def tick (t : Option Nat) : Option Nat := t.map (· - 1)

/-- A millisecond passes: the grid clock advances by one and wraps (R134), and the running timers count (R163, R195). -/
def State.millisecond (s : State) : State :=
  ((s.modTimer fun t => { t with clock := t.clock + 1 }).modPorts fun p =>
    { p with
      linkA := { p.linkA with silence := tick p.linkA.silence }
      linkB := { p.linkB with silence := tick p.linkB.silence } }).modDwell fun d => { d with timer := tick d.timer }

/-- The FRAME_ARRIVAL event. -/
def execFrameArrival (port : Port) (bytes : List Byte) (s : State) : Host.Outcome State Fault Refusal :=
  .next (s.frameArrives port bytes)

/-- The SILENCE_TIMER_EXPIRY event. -/
def execSilenceTimerExpiry (l : Link) (s : State) : Host.Outcome State Fault Refusal := .next (s.silenceExpires l)

/-- The LINK-SET command. -/
def execLinkSet (h : Hdr) (selector booking claim silence : Byte) (s : State) : Host.Outcome State Fault Refusal :=
  .next (s.serve (.linkSet h selector booking claim silence) (hostService (linkSetRequest selector booking claim silence)))

/-- The LINK-READ command. -/
def execLinkRead (h : Hdr) (selector : Byte) (s : State) : Host.Outcome State Fault Refusal :=
  .next (s.serve (.linkRead h selector) (hostService (linkReadRequest selector)))

/-- The GRID_CLOCK_ADVANCE event. -/
def execGridClockAdvance (s : State) : Host.Outcome State Fault Refusal := .next s.millisecond

end Sys2Proof.Machine
end

