-- ==== Sys2Proof/Machine/Supervision.lean ====
section
/-! DEFINITION. Device mode, status and record access, RETIRE, FLUSH and RESET (sections 11.1 to 11.4). -/

namespace Sys2Proof.Machine

/-- Change the device mode. -/
def State.setMode (s : State) (m : Mode) : State := s.modEngine fun e => { e with mode := m }

/-- The period timer stops, and the pass in flight and the pending one are given up (R163, R167). -/
def State.stopDwell (s : State) : State := s.modDwell fun d => { d.abandonPass with timer := none }

/-- MODE (R204). A reply other than BAD_FIELD carries the mode as it then stands (log 13). -/
def modeRequest (requested : Byte) (s : State) : State × Answer :=
  if requested = 1 then
    if s.engine.mode = .run then (s, ⟨.wrongState, [[s.engine.mode.code]]⟩)
    else
      let s1 := (s.setMode .run).modDwell DwellUnit.startTimer
      (s1, accept [s1.engine.mode.code])
  else if requested = 0 then
    if s.engine.mode = .setup then (s, ⟨.wrongState, [[s.engine.mode.code]]⟩)
    else if s.liveCount ≠ 0 then (s, ⟨.notEmpty, [[s.engine.mode.code]]⟩)
    else
      let s1 := (s.setMode .setup).stopDwell
      (s1, accept [s1.engine.mode.code])
  else (s, refuse .badField)

/-- The STATUS reply body (R206, R203). -/
def statusBody (s : State) : List Byte :=
  [s.engine.mode.code] ++ be16 (halfOf s.liveCount) ++ be16 (halfOf (Config.slots - s.liveCount)) ++
    be32 s.timer.clock ++ [linkStatus s .a, linkStatus s .b] ++ be32 s.dwell.passes ++
    [flagByte [s.dwell.cursor.isSome, s.dwell.passPending], s.notices.pendingSet]

/-- STATUS, served in every mode (R205, R206). -/
def statusService (_ : Frame) (s : State) : Served := (s, some (accept (statusBody s)))

/-- LOOKUP (R207). -/
def lookupRequest (selector : Byte) (value : Word) (s : State) : State × Answer :=
  let found :=
    if selector = 0 then some (s.findBin value)
    else if selector = 1 ∧ value.toNat < 65536 then some (s.resolve (value.extractLsb' 0 16))
    else none
  match found with
  | none => (s, refuse .badField)
  | some none => (s, refuse .none)
  | some (some (h, r)) => (s, accept (recordBlock s h r))

/-- The live records a SCAN returns: upward from the start slot, at most the count (R208). -/
def State.scanned (s : State) (start count : Nat) : List (Nat × Record) :=
  (s.engine.records.filter fun p => start ≤ p.1).take count

/-- The continue slot of a SCAN: one more than the last slot returned when the count was reached, else 2048 (R208). -/
def continueSlot (count : Nat) (found : List (Nat × Record)) : Nat :=
  match found.getLast? with
  | some p => if found.length = count then p.1 + 1 else Config.slots
  | none => Config.slots

/-- SCAN (R208). -/
def scanRequest (start : Half) (count : Byte) (s : State) : State × Answer :=
  if start.toNat > 2047 ∨ count.toNat < 1 ∨ count.toNat > 8 then (s, refuse .badField)
  else
    let found := s.scanned start.toNat count.toNat
    (s, ⟨.ok, (be16 (halfOf (continueSlot count.toNat found)) ++ [byteOf found.length]) ::
      found.map fun p => recordBlock s (s.handleOf p.1) p.2⟩)

/-- RETIRE (R209). -/
def retireRequest (handle : Half) (s : State) : State × Answer :=
  match s.resolve handle with
  | none => (s, refuse .staleHandle)
  | some (h, r) => (s.retire h r, accept (be16 h.wire ++ [r.custody.state.code]))

/-! ## FLUSH -/

/-- A FLUSH begins (R210, step 1). -/
def State.beginFlush (s : State) (f : Frame) : State :=
  (s.modEngine fun e => { e with mode := .flushing, flush := some ⟨f, 0⟩ }).stopDwell

/-- A FLUSH ends: the mode becomes SETUP, its reply is sent, and the replies behind it follow (R194, R210, log 6). -/
def State.endFlush (s : State) : State :=
  let s1 := s.modEngine fun e => { e with mode := .setup, flush := none }
  let s2 := match s.engine.flush with
    | some run => s1.sendReply run.request (accept (be16 (halfOf run.retired)))
    | none => s1
  (s2.send s.ports.unsent).modPorts fun p => { p with unsent := [] }

/-- FLUSH (R205, R210). In RUN with no live record it ends in the same step (log 15). -/
def flushService (f : Frame) (s : State) : Served :=
  match s.engine.mode with
  | .flushing => (s, some (refuse .busy))
  | .setup => (s, some (accept (be16 0)))
  | .run =>
    let s1 := s.beginFlush f
    if s1.liveCount = 0 then (s1.endFlush, none) else (s1, none)

/-- One record retired of a FLUSH: the number grows (R210). -/
def FlushRun.more (f : FlushRun) : FlushRun := { f with retired := f.retired + 1 }

/-- A FLUSH's next retirement, in ascending slot order, and the FLUSH's end when no live record remains; nothing when no
FLUSH is in progress (R210, log 21). -/
def State.flushStep (s : State) : State :=
  if s.engine.mode ≠ .flushing then s
  else
    match s.engine.records with
    | [] => s.endFlush
    | (slot, r) :: _ =>
      let s1 := (s.retire (s.handleOf slot) r).modEngine fun e => { e with flush := e.flush.map FlushRun.more }
      if s1.liveCount = 0 then s1.endFlush else s1

/-! ## RESET and device reset -/

/-- A device reset: every block returns to its reset state. The commands waiting and the frames that have left are not the
part's, and stay (R199, R211, log 5). -/
def State.deviceReset (s : State) : State := { State.reset with pending := s.pending, sent := s.sent }

/-- RESET: BUSY while a FLUSH is in progress, else answered OK, and once that reply has left the part performs a device reset
(R205, R211, log 19). -/
def resetService (f : Frame) (s : State) : Served :=
  if s.engine.mode = .flushing then (s, some (refuse .busy))
  else ((s.sendReply f (accept [])).deviceReset, none)

/-! ## The commands -/

/-- The MODE command. -/
def execMode (h : Hdr) (requested : Byte) (s : State) : Host.Outcome State Fault Refusal :=
  .next (s.serve (.mode h requested) (hostService (modeRequest requested)))

/-- The STATUS command. -/
def execStatus (h : Hdr) (s : State) : Host.Outcome State Fault Refusal := .next (s.serve (.status h) statusService)

/-- The LOOKUP command. -/
def execLookup (h : Hdr) (selector : Byte) (value : Word) (s : State) : Host.Outcome State Fault Refusal :=
  .next (s.serve (.lookup h selector value) (hostService (lookupRequest selector value)))

/-- The SCAN command. -/
def execScan (h : Hdr) (start : Half) (count : Byte) (s : State) : Host.Outcome State Fault Refusal :=
  .next (s.serve (.scan h start count) (hostService (scanRequest start count)))

/-- The RETIRE command. -/
def execRetire (h : Hdr) (handle : Half) (s : State) : Host.Outcome State Fault Refusal :=
  .next (s.serve (.retire h handle) (hostService (retireRequest handle)))

/-- The FLUSH command. -/
def execFlush (h : Hdr) (s : State) : Host.Outcome State Fault Refusal := .next (s.serve (.flush h) flushService)

/-- The FLUSH_RETIREMENT event. -/
def execFlushRetirement (s : State) : Host.Outcome State Fault Refusal := .next s.flushStep

/-- The RESET command. -/
def execReset (h : Hdr) (s : State) : Host.Outcome State Fault Refusal :=
  .next (s.serve (.reset h) resetService)

/-- The DEVICE_RESET event. -/
def execDeviceReset (s : State) : Host.Outcome State Fault Refusal := .next s.deviceReset

end Sys2Proof.Machine
end

