-- ==== Sys2Proof/Machine/Notices.lean ====
section
/-! DEFINITION. The Notice Unit's requests: notices, alerts and counters (sections 11.5 to 11.7). -/

namespace Sys2Proof.Machine

/-- NOTICE-READ (R213). -/
def noticeReadRequest (queue most : Byte) (s : State) : State × Answer :=
  match QueueId.ofByte queue with
  | none => (s, refuse .badField)
  | some q =>
    if most.toNat < 1 ∨ most.toNat > 4 then (s, refuse .badField)
    else
      let items := (s.notices.queue q).items
      let out := items.take most.toNat
      let left := items.drop most.toNat
      (s.modNotices fun u => u.modQueue q fun nq => { nq with items := left },
        ⟨.ok, [byteOf out.length, byteOf left.length, boolByte (s.notices.queue q).dropped] ::
          out.mapIdx fun i n => noticeBlock (Config.unstatedBin s.draw i) n⟩)

/-- The three sets an alert reply ends with (R203, R215). -/
def alertSets (u : NoticeUnit) : List Byte := [u.pendingSet, u.overrunSet, u.enabled]

/-- ALERT-READ (R215). -/
def alertReadRequest (s : State) : State × Answer := (s, accept (s.notices.highest :: alertSets s.notices))

/-- A set of alert sources has bits 6 and 7 clear (R215). -/
def sourcesFit (b : Byte) : Bool := b.toNat < 64

/-- ALERT-MASK (R215). -/
def alertMaskRequest (enabled : Byte) (s : State) : State × Answer :=
  if !sourcesFit enabled then (s, refuse .badField)
  else
    let s1 := s.modNotices fun u => { u with enabled := enabled }
    (s1, accept (alertSets s1.notices))

/-- The edge sources' flags and the queue sources' DROPPED flags of a set are cleared (R215). -/
def NoticeUnit.clearAlerts (u : NoticeUnit) (b : Byte) : NoticeUnit :=
  let clearEdge := fun (i : Nat) (e : Edge) => if b.getLsbD i then (⟨false, false⟩ : Edge) else e
  let clearDrop := fun (i : Nat) (q : NoticeQueue) => if b.getLsbD i then { q with dropped := false } else q
  { u with
    linkEdge := clearEdge 0 u.linkEdge
    thermal := clearDrop 1 u.thermal
    timing := clearDrop 2 u.timing
    custody := clearDrop 3 u.custody
    rule := clearDrop 4 u.rule
    capacityEdge := clearEdge 5 u.capacityEdge }

/-- ALERT-CLEAR (R215). -/
def alertClearRequest (sources : Byte) (s : State) : State × Answer :=
  if !sourcesFit sources then (s, refuse .badField)
  else
    let s1 := s.modNotices fun u => u.clearAlerts sources
    (s1, accept (alertSets s1.notices))

/-- COUNTER-MASK (R217). -/
def counterMaskRequest (slot events unit : Byte) (s : State) : State × Answer :=
  if slot.toNat > 3 ∨ unit.toNat > 1 then (s, refuse .badField)
  else
    (s.modNotices fun u => { u with slots := u.slots.putD .reset slot.toNat ⟨events, decide (unit = 1)⟩ },
      accept [slot, events, unit])

/-- A zone counter (R216). -/
def NoticeUnit.counter (u : NoticeUnit) (zone slot : Nat) : Word := u.counters.lookD 0 (4 * zone + slot)

/-- COUNTER-READ (R217). -/
def counterReadRequest (zone : Byte) (s : State) : State × Answer :=
  if zone.toNat > 15 then (s, refuse .badField)
  else (s, accept (zone :: [0, 1, 2, 3].flatMap fun slot => be32 (s.notices.counter zone.toNat slot)))

/-- COUNTER-CLEAR (R217). -/
def counterClearRequest (zone : Byte) (s : State) : State × Answer :=
  if zone = 255 then (s.modNotices fun u => { u with counters := [] }, accept [zone])
  else if zone.toNat > 15 then (s, refuse .badField)
  else
    (s.modNotices fun u => { u with counters := u.counters.filter fun p => p.1 / 4 ≠ zone.toNat }, accept [zone])

/-- The NOTICE-READ command. -/
def execNoticeRead (h : Hdr) (queue most : Byte) (s : State) : Host.Outcome State Fault Refusal :=
  .next (s.serve (.noticeRead h queue most) (hostService (noticeReadRequest queue most)))

/-- The ALERT-READ command. -/
def execAlertRead (h : Hdr) (s : State) : Host.Outcome State Fault Refusal :=
  .next (s.serve (.alertRead h) (hostService alertReadRequest))

/-- The ALERT-MASK command. -/
def execAlertMask (h : Hdr) (enabled : Byte) (s : State) : Host.Outcome State Fault Refusal :=
  .next (s.serve (.alertMask h enabled) (hostService (alertMaskRequest enabled)))

/-- The ALERT-CLEAR command. -/
def execAlertClear (h : Hdr) (sources : Byte) (s : State) : Host.Outcome State Fault Refusal :=
  .next (s.serve (.alertClear h sources) (hostService (alertClearRequest sources)))

/-- The COUNTER-MASK command. -/
def execCounterMask (h : Hdr) (slot events unit : Byte) (s : State) : Host.Outcome State Fault Refusal :=
  .next (s.serve (.counterMask h slot events unit) (hostService (counterMaskRequest slot events unit)))

/-- The COUNTER-READ command. -/
def execCounterRead (h : Hdr) (zone : Byte) (s : State) : Host.Outcome State Fault Refusal :=
  .next (s.serve (.counterRead h zone) (hostService (counterReadRequest zone)))

/-- The COUNTER-CLEAR command. -/
def execCounterClear (h : Hdr) (zone : Byte) (s : State) : Host.Outcome State Fault Refusal :=
  .next (s.serve (.counterClear h zone) (hostService (counterClearRequest zone)))

end Sys2Proof.Machine
end

