-- ==== Sys2Proof/Machine/Events.lean ====
section
/-! DEFINITION. Expiries and lapses (section 7.3), the overdue event and the rescue switch (sections 6.3 and 8.5). -/

namespace Sys2Proof.Machine

/-! ## Raising an expiry -/

/-- The first entry, in list order, that has been reached and whose expiry has not been raised, with the list in which it
has (R139). -/
def raiseFirst (clock : Word) : List Deadline → Option (Deadline × List Deadline)
  | [] => none
  | d :: t =>
    if reached clock d.instant && !d.raised then some (d, { d with raised := true } :: t)
    else (raiseFirst clock t).map fun p => (p.1, d :: p.2)

/-- The Deadline Timer raises the expiry of the next entry reached; nothing when there is none (R139, log 21). -/
def State.raiseExpiry (s : State) : State :=
  match raiseFirst s.timer.clock s.timer.list with
  | none => s
  | some (d, rest) =>
    (s.modTimer fun t => { t with list := rest }).modEngine fun e =>
      { e with expiries := e.expiries ++ [⟨d.handle, d.kind, d.instant⟩] }

/-! ## Lapses -/

/-- A booking lapse (R141, R142). -/
def State.bookingLapse (s : State) (h : Handle) (r : Record) (carrier cellNo : Nat) : State :=
  let s1 := s.endBooking h r carrier cellNo (some carrier)
  (s1.post .timing
    (recordNotice .bookingLapsed h r (some carrier) (some cellNo) r.presentZone (s1.cellStateCode cellNo))).countEvent
    .bookingLapsed r.presentZone 0

/-- The miss count after a miss, saturating at 7 (R91). -/
def missesAfter (e : Option Robot) : Nat := min 7 ((e.map (·.misses)).getD 0 + 1)

/-- Whether a claim lapse suspends the robot, given its count after the increment (R92). -/
def suspends (limit : Nat) (e : Option Robot) : Bool :=
  limit != 0 && limit ≤ missesAfter e && e.any fun r => !r.suspended

/-- A claim lapse, with the miss count and the automatic suspension (R91, R92, R143, R144). -/
def State.claimLapse (s : State) (h : Handle) (r : Record) (spot : Spot) (claimant : Nat) : State :=
  let e := s.robot claimant
  let misses := missesAfter e
  let detail := byteOf misses
  let zone := s.cellZone spot.cell
  let s1 := (s.endClaim h r spot claimant (some claimant)).modRobot claimant fun x => { x with misses := misses }
  let s2 := (s1.post .timing (recordNotice .claimLapsed h r (some claimant) (some spot.cell) zone detail)).countEvent
    .claimLapsed r.presentZone 0
  if suspends s.engine.missLimit e then
    (s2.modRobot claimant fun x => { x with suspended := true }).post .custody
      (recordNotice .robotSuspended h r (some claimant) (some spot.cell) zone detail)
  else s2

/-- The engine takes an expiry: the lapse when every condition of R140 holds, else the expiry is discarded. -/
def State.lapse (s : State) (x : Expiry) : State :=
  match s.recordOf x.handle with
  | none => s
  | some r =>
    match r.custody, x.kind with
    | .booked carrier cellNo _ _ (.armed d), .booking =>
      if d = x.instant then s.bookingLapse x.handle r carrier cellNo else s
    | .claimed spot claimant (.armed d), .claim =>
      if d = x.instant then s.claimLapse x.handle r spot claimant else s
    | _, _ => s

/-- The n-th of the expiry events raised and not yet taken is taken; it waits while a FLUSH is in progress (R140, R151,
log 3). -/
def State.takeExpiry (s : State) (n : Nat) : State :=
  if s.engine.mode = .flushing then s
  else
    match s.engine.expiries[n]? with
    | none => s
    | some x => (s.modEngine fun e => { e with expiries := e.expiries.eraseIdx n }).lapse x

/-! ## The overdue event -/

/-- Whether a record is a STAGED top (R95). -/
def State.stagedTop (s : State) (h : Handle) (r : Record) : Bool :=
  match r.custody with
  | .staged spot _ => s.cellTop spot.cell == some h
  | _ => false

/-- What a rescue switch does to the state-dependent fields: a BOOKED record's override is cleared, a STAGED or CLAIMED one
takes leg 0's mask (R128 to R131). -/
def Custody.rescued (c : Custody) (mask : Byte) : Custody :=
  match c with
  | .carried carrier lapsed => .carried carrier lapsed
  | .booked carrier cell receiver _ timing => .booked carrier cell receiver none timing
  | .staged spot lapsed => .staged { spot with mask := mask } lapsed
  | .claimed spot claimant timing => .claimed { spot with mask := mask } claimant timing

/-- The record after a rescue switch (R127). -/
def Record.switched (r : Record) (plan : Nat) (p : Plan) : Record :=
  { r with
    route := some ⟨plan, 0⟩
    hopLimit := min 15 (r.hops + p.legs.length)
    rescued := true
    custody := r.custody.rescued ((p.legs.head?.map (·.mask)).getD 0) }

/-- The rescue switch onto a defined plan (R118, R127 to R131). -/
def State.rescue (s : State) (h : Handle) (r : Record) (plan : Nat) (p : Plan) : State :=
  let s1 := match r.route with
    | some route => s.planDown route.plan
    | none => s
  let s2 := s1.planUp plan
  let r1 := r.switched plan p
  let s3 := s2.putRecord h.slot r1
  let s4 := match r.custody.spot, r1.custody.spot with
    | some old, some new => if s.stagedTop h r then s3.maskChange h old.mask new.mask r.priority old.seq else s3
    | _, _ => s3
  s4.post .thermal (recordNotice .rescueApplied h r r.custody.party r.custody.cell r.presentZone (byteOf plan))

/-- The decision of R127; a record already rescued is not switched again (R18, log 16). -/
def State.decideRescue (s : State) (h : Handle) (r : Record) : State :=
  if r.rescued then s
  else
    match (s.dwell.params r.cls).rescue with
    | none => s
    | some plan =>
      match s.plans.look plan with
      | none =>
        s.post .thermal (recordNotice .rescueUnavailable h r r.custody.party r.custody.cell r.presentZone (byteOf plan))
      | some p => s.rescue h r plan p

/-- The engine takes an overdue event: discarded when its handle no longer resolves, else priority 3, the rescue decision
and the OVERDUE counter event (R172). -/
def State.overdueTaken (s : State) (h : Handle) : State :=
  match s.recordOf h with
  | none => s
  | some r =>
    let r1 := { r with priority := 3 }
    let s1 := s.putRecord h.slot r1
    let s2 := if s.stagedTop h r then s1.priorityChange h 3 else s1
    (s2.decideRescue h r1).countEvent .overdue r.presentZone 0

/-- The n-th of the overdue events raised and not yet taken is taken; it waits while a FLUSH is in progress (R172, R210,
log 3). -/
def State.takeOverdue (s : State) (n : Nat) : State :=
  if s.engine.mode = .flushing then s
  else
    match s.engine.overdues[n]? with
    | none => s
    | some h => (s.modEngine fun e => { e with overdues := e.overdues.eraseIdx n }).overdueTaken h

/-! ## The events -/

/-- The DEADLINE_REACHED event. -/
def execDeadlineReached (s : State) : Host.Outcome State Fault Refusal := .next s.raiseExpiry

/-- The EXPIRY_TAKEN event. -/
def execExpiryTaken (n : Nat) (s : State) : Host.Outcome State Fault Refusal := .next (s.takeExpiry n)

/-- The OVERDUE_EVENT event. -/
def execOverdueEvent (n : Nat) (s : State) : Host.Outcome State Fault Refusal := .next (s.takeOverdue n)

end Sys2Proof.Machine
end

