-- ==== Sys2Proof/Machine/Dispatch.lean ====
section
/-! DEFINITION. One arm per command of the opcode table. -/

namespace Sys2Proof.Machine

def exec (i : Instr) (s : State) : Host.Outcome State Fault Refusal :=
  match i with
  | .frameArrival port bytes => Sys2Proof.Machine.execFrameArrival port bytes s
  | .silenceTimerExpiry l => Sys2Proof.Machine.execSilenceTimerExpiry l s
  | .declare l h bin cls zone plan wave priority => Sys2Proof.Machine.execDeclare l h bin cls zone plan wave priority s
  | .book l h handle cell receiver => Sys2Proof.Machine.execBook l h handle cell receiver s
  | .unbook l h handle => Sys2Proof.Machine.execUnbook l h handle s
  | .setdown l h handle => Sys2Proof.Machine.execSetdown l h handle s
  | .claim l h handle => Sys2Proof.Machine.execClaim l h handle s
  | .seek l h => Sys2Proof.Machine.execSeek l h s
  | .yieldBin l h handle => Sys2Proof.Machine.execYield l h handle s
  | .takeup l h handle => Sys2Proof.Machine.execTakeup l h handle s
  | .finish l h handle outcome => Sys2Proof.Machine.execFinish l h handle outcome s
  | .queryBin l h bin => Sys2Proof.Machine.execQueryBin l h bin s
  | .queryCell l h cell => Sys2Proof.Machine.execQueryCell l h cell s
  | .cellWrite h cell config => Sys2Proof.Machine.execCellWrite h cell config s
  | .cellDelete h cell => Sys2Proof.Machine.execCellDelete h cell s
  | .cellDrain h cell admissions => Sys2Proof.Machine.execCellDrain h cell admissions s
  | .cellReopen h cell => Sys2Proof.Machine.execCellReopen h cell s
  | .robotEnrol h robot group => Sys2Proof.Machine.execRobotEnrol h robot group s
  | .robotWithdraw h robot => Sys2Proof.Machine.execRobotWithdraw h robot s
  | .robotSuspend h robot => Sys2Proof.Machine.execRobotSuspend h robot s
  | .robotResume h robot => Sys2Proof.Machine.execRobotResume h robot s
  | .robotRead h robot => Sys2Proof.Machine.execRobotRead h robot s
  | .missLimit h limit => Sys2Proof.Machine.execMissLimit h limit s
  | .planWrite h plan legCount legs => Sys2Proof.Machine.execPlanWrite h plan legCount legs s
  | .planClear h plan => Sys2Proof.Machine.execPlanClear h plan s
  | .planRead h plan => Sys2Proof.Machine.execPlanRead h plan s
  | .classWrite h cls params => Sys2Proof.Machine.execClassWrite h cls params s
  | .classRead h cls => Sys2Proof.Machine.execClassRead h cls s
  | .zoneMode h zone mode => Sys2Proof.Machine.execZoneMode h zone mode s
  | .zoneSense h zone reading => Sys2Proof.Machine.execZoneSense h zone reading s
  | .zoneSet h zone temperature => Sys2Proof.Machine.execZoneSet h zone temperature s
  | .zoneRead h zone => Sys2Proof.Machine.execZoneRead h zone s
  | .dwellSet h period staleLimit staleMargin => Sys2Proof.Machine.execDwellSet h period staleLimit staleMargin s
  | .ruleWrite h rule => Sys2Proof.Machine.execRuleWrite h rule s
  | .ruleRead h index => Sys2Proof.Machine.execRuleRead h index s
  | .ruleHits h clear => Sys2Proof.Machine.execRuleHits h clear s
  | .linkSet h selector booking claim silence => Sys2Proof.Machine.execLinkSet h selector booking claim silence s
  | .linkRead h selector => Sys2Proof.Machine.execLinkRead h selector s
  | .mode h mode => Sys2Proof.Machine.execMode h mode s
  | .status h => Sys2Proof.Machine.execStatus h s
  | .lookup h selector value => Sys2Proof.Machine.execLookup h selector value s
  | .scan h start count => Sys2Proof.Machine.execScan h start count s
  | .retire h handle => Sys2Proof.Machine.execRetire h handle s
  | .flush h => Sys2Proof.Machine.execFlush h s
  | .flushRetirement => Sys2Proof.Machine.execFlushRetirement s
  | .reset h => Sys2Proof.Machine.execReset h s
  | .deviceReset => Sys2Proof.Machine.execDeviceReset s
  | .noticeRead h queue most => Sys2Proof.Machine.execNoticeRead h queue most s
  | .alertRead h => Sys2Proof.Machine.execAlertRead h s
  | .alertMask h enabled => Sys2Proof.Machine.execAlertMask h enabled s
  | .alertClear h sources => Sys2Proof.Machine.execAlertClear h sources s
  | .counterMask h slot events unit => Sys2Proof.Machine.execCounterMask h slot events unit s
  | .counterRead h zone => Sys2Proof.Machine.execCounterRead h zone s
  | .counterClear h zone => Sys2Proof.Machine.execCounterClear h zone s
  | .deadlineReached => Sys2Proof.Machine.execDeadlineReached s
  | .expiryTaken n => Sys2Proof.Machine.execExpiryTaken n s
  | .accrualPeriodExpiry => Sys2Proof.Machine.execAccrualPeriodExpiry s
  | .accrualVisit => Sys2Proof.Machine.execAccrualVisit s
  | .overdueEvent n => Sys2Proof.Machine.execOverdueEvent n s
  | .gridClockAdvance => Sys2Proof.Machine.execGridClockAdvance s

end Sys2Proof.Machine
end

