-- ==== Sys2Proof/Safety.lean ====
section
/-! DEFINITION. The terms that statements use: how a request command comes to be served, what stays as it was, and the laws
that every step keeps. -/

namespace Sys2Proof.Machine

/-! ## How a request is served -/

/-- The request frame of a command and the state in which its service begins, when the rotation hands it over at once: the
request is presented at its port unless the rotation hands it over next already, and is then taken (R191 to R193, log 1). -/
def State.ready (s : State) (c : Instr) : Option (Frame × State) :=
  match c.frame with
  | none => none
  | some f =>
    let s1 := if s.ports.nextRequest = some f then s else s.present f
    if s1.ports.nextRequest = some f then some (f, s1.modPorts PortUnit.take) else none

/-- A management request is handed over outside FLUSHING: its frame and the state in which it is served (R205). -/
def State.hostTakes (s : State) (c : Instr) (f : Frame) (u : State) : Prop :=
  s.ready c = some (f, u) ∧ f.port = .host ∧ u.engine.mode ≠ .flushing

/-- The intake of a robot request passes: the robot's number and the state after the link update (R49, R50). -/
def State.intake (u : State) (f : Frame) : Option (Nat × State) :=
  match f.port with
  | .host => none
  | .link l =>
    if u.engine.mode = .run ∧ 1 ≤ f.robot.toNat ∧ f.robot.toNat ≤ 1023 then
      (u.robot f.robot.toNat).map fun e => (f.robot.toNat, u.linkUpdate f.robot.toNat l e)
    else none

/-- A robot request is handed over and passes intake: its frame, the robot's number and the state in which its own checks
are made (R49). -/
def State.robotTakes (s : State) (c : Instr) (f : Frame) (n : Nat) (v : State) : Prop :=
  ∃ u, s.ready c = some (f, u) ∧ u.intake f = some (n, v)

/-- The party-tested robot requests whose fields are in range: the handle, the state the record must be in, and whether the
check list names LATE (R22, R53, R59). -/
def partyRequest : Instr → Option (Half × RecordState × Bool)
  | .book _ _ handle cell receiver => if cell.toNat ≤ 1023 ∧ receiver.toNat ≤ 1023 then some (handle, .carried, true) else none
  | .unbook _ _ handle => some (handle, .booked, true)
  | .setdown _ _ handle => some (handle, .booked, true)
  | .yieldBin _ _ handle => some (handle, .claimed, true)
  | .takeup _ _ handle => some (handle, .claimed, true)
  | .finish _ _ handle _ => some (handle, .carried, false)
  | _ => none

/-- The body lengths of each request kind, read off the body tables of R203: a kind that is not listed is no request, and no
length but those listed is allowed (R191, R203). -/
def allowedLengths : List (Nat × List Nat) :=
  [(0x01, [9]), (0x02, [6]), (0x03, [2]), (0x04, [2]), (0x05, [2]), (0x06, [0]), (0x07, [2]), (0x08, [2]),
    (0x09, [3]), (0x0A, [4]), (0x0B, [2]), (0x20, [1]), (0x21, [0]), (0x22, [5]), (0x23, [3]), (0x24, [2]),
    (0x25, [0]), (0x26, [0]), (0x27, [13]), (0x28, [2]), (0x29, [3]), (0x2A, [2]), (0x2B, [3]), (0x2C, [2]),
    (0x2D, [2]), (0x2E, [2]), (0x2F, [2]), (0x30, [1]), (0x31, [4, 6, 8, 10, 12, 14, 16, 18]), (0x32, [1]),
    (0x34, [1]), (0x35, [8]), (0x36, [1]), (0x37, [2]), (0x38, [3]), (0x39, [3]), (0x3A, [1]), (0x3B, [3]),
    (0x3C, [24]), (0x3D, [1]), (0x3E, [8]), (0x3F, [4]), (0x40, [1]), (0x41, [2]), (0x42, [0]), (0x43, [1]),
    (0x44, [1]), (0x45, [3]), (0x46, [1]), (0x47, [1])]

/-- Whether the body tables allow a kind a body of a length (R191, R203). -/
def lengthAllowed (kind length : Nat) : Bool := allowedLengths.any fun p => p.1 == kind && p.2.contains length

/-! ## What stays as it was -/

/-- Two tables agree at every number but one. -/
def Table.sameBut {α : Type} (a b : Table α) (n : Nat) : Prop :=
  ∀ m, m ≠ n → a.look m = b.look m

/-! ## Effects that several rules share -/

/-- What the close check asks of a cell (R41). -/
def Cell.closes (c : Cell) : Prop := c.state = .draining ∧ c.admissions = 0 ∧ c.stack = [] ∧ c.reserved = 0

/-- The bytes of a cell summary for a cell that is defined or not (R42, R203). -/
def summaryBytes (cell : Half) : Option Cell → List Byte
  | none => be16 cell ++ [0, 0, 0, 0, 0, 0]
  | some c => be16 cell ++
      [1, c.state.code, byteOf c.capacity, byteOf c.stack.length, byteOf c.reserved, byteOf c.admissions]

/-- The bytes of a roster entry block for an enrolled robot, but for the state and hold of its record (R90, R203). -/
def entryBytes (robot : Half) (e : Robot) (record : List Byte) (limit : Nat) : List Byte :=
  be16 robot ++ [if e.suspended then 2 else 1, byteOf e.group, lastLinkCode e.lastLink] ++
    handleField (e.party.map (·.1)) ++ [roleCode (e.party.map (·.2))] ++ record ++ [byteOf e.misses, byteOf limit]

/-- The bytes of a plan block for a plan that is defined or not (R121, R203). -/
def planBytes (plan : Byte) : Option Plan → List Byte
  | none => [plan, 0, 0, 0]
  | some p => [plan, 1] ++ be16 (halfOf p.refs) ++ p.legs.flatMap fun l => [byteOf l.group, l.mask]

/-- The bytes of a zone block (R157, R168, R203). -/
def zoneBytes (zone : Byte) (margin : Nat) (z : Zone) : List Byte :=
  [zone, signedByte z.temperature, if z.sensor then 0 else 1, byteOf z.passes, if z.stale then 1 else 0,
    signedByte (min 120 (if z.stale then z.temperature + margin else z.temperature))]

/-- The bytes of a rule block with the hit flag (R186, R203). -/
def ruleBytes (index : Byte) (r : Rule) : List Byte :=
  [index, if r.valid then 1 else 0] ++
    [r.fields.point, r.fields.cls, r.fields.priority, r.fields.originZone, r.fields.targetZone, r.fields.planned,
      r.fields.overdue, r.fields.hops, r.fields.wave].flatMap (fun m => [m.value, m.care]) ++
    [flagByte [r.deny, r.overrides, r.notifyAlways, r.notifyOnce, r.exempt], r.overrideMask, r.scale.code, byteOf r.floor,
      if r.hit then 1 else 0]

/-- The passes count of a zone after the start of a pass (R158). -/
def Zone.counted (z : Zone) : Nat := min 15 (z.passes + 1)

/-- The start step of a pass leads from one state to another: SENSOR zones count it, those that reach the stale limit turn
STALE and post ZONE_STALE, in an order the manual leaves open (log 10), and the cursor stands at slot 0 (R158, R164, R165). -/
def State.passStarted (s t : State) : Prop :=
  t = { s with
        dwell := { s.dwell with zones := t.dwell.zones, cursor := some 0 }
        notices := t.notices } ∧
    (∀ n, t.zone n =
      let z := s.zone n
      if n < 16 ∧ z.sensor = true then
        { z with
          passes := z.counted
          stale := z.stale || decide (s.dwell.staleLimit ≤ z.counted) }
      else z) ∧
    ∃ order : List Nat, order.Nodup ∧
      (∀ n, n ∈ order ↔ n < 16 ∧ (s.zone n).sensor = true ∧ (s.zone n).stale = false ∧
        s.dwell.staleLimit ≤ (s.zone n).counted) ∧
      t.notices = (order.foldl (fun (x : State) n =>
        x.post .thermal ⟨.zoneStale, 0, none, none, none, none, some n, byteOf (s.zone n).counted⟩) s).notices

/-- The end of a FLUSH leads to SETUP; its reply leaves, then the replies behind it (R194, R210, log 6). -/
def State.flushEnded (s : State) (run : FlushRun) : State :=
  { s with
    engine := { s.engine with mode := .setup, flush := none }
    ports := { s.ports with unsent := [] }
    sent := s.sent ++ [⟨.host, run.request.kind ||| 0x80#8, 0, run.request.tag, 1, be16 (halfOf run.retired)⟩] ++
      s.ports.unsent }

/-- A record that leaves a link DOWN: an armed timing becomes the time left, or 0 when the instant has been reached (R146). -/
def Timing.heldAt (clock : Word) : Timing → Timing
  | .armed d => .held (if 0 ≤ (clock - d).toInt then 0 else (d - clock).toNat)
  | .held saved => .held saved

/-- A record whose link comes UP: a held timing becomes a deadline the saved time from now (R147). -/
def Timing.armedAt (clock : Word) : Timing → Timing
  | .armed d => .armed d
  | .held saved => .armed (clock + BitVec.ofNat 32 saved)

/-- Change the timing of a BOOKED or CLAIMED record. -/
def Record.retimed (r : Record) (f : Timing → Timing) : Record :=
  match r.custody with
  | .booked carrier cell receiver ov timing => { r with custody := .booked carrier cell receiver ov (f timing) }
  | .claimed spot claimant timing => { r with custody := .claimed spot claimant (f timing) }
  | _ => r

/-- The kind of entry of a record's state (R136). -/
def Record.deadlineKind (r : Record) : DeadlineKind :=
  match r.custody with
  | .booked .. => .booking
  | _ => .claim

/-- Whether a record's timing is a deadline. -/
def Record.isArmed (r : Record) : Bool :=
  match r.custody.timing with
  | some (.armed _) => true
  | _ => false

/-! ## Laws of the table (R1, R3, R4, R6) -/

/-- Slots: the table and the generations are in canonical form, numbers below 2048 and generations below 16; the Free Slot
Queue holds every free slot once and no live slot; the Bin Index holds the bin ID of each live record and nothing else,
and no bin ID is 0 or needs more than 32 bits. -/
def State.slotLaw (s : State) : Prop :=
  s.engine.records.wf = true ∧ s.engine.gens.wf = true ∧ s.engine.binIndex.wf = true ∧
    (∀ p ∈ s.engine.records, p.1 < Config.slots) ∧ (∀ p ∈ s.engine.gens, p.2 < 16) ∧
    s.engine.freeSlots.Nodup ∧
    (∀ n, n ∈ s.engine.freeSlots ↔ n < Config.slots ∧ s.engine.records.look n = none) ∧
    (∀ b n, s.engine.binIndex.look b = some n ↔ ∃ r, s.engine.records.look n = some r ∧ r.bin = b) ∧
    ∀ b n, s.engine.binIndex.look b = some n → 1 ≤ b ∧ b < 2 ^ 32

/-! ## Laws of a record (R10, R17, R18, R125) -/

/-- Exposure, flags and priority of a record (R10, R18, R169 to R171). -/
def Record.exposureLaw (r : Record) : Prop :=
  r.priority ≤ 3 ∧ r.exposure ≤ 65535 ∧ 1 ≤ r.budget ∧ r.budget ≤ 65535 ∧
    (r.overdue = true ↔ r.budget ≤ r.exposure) ∧ (r.warned = true → r.budget * 3 / 4 ≤ r.exposure) ∧
    (r.overdue = true → r.warned = true) ∧ (r.exempt = true → r.exposure = 0)

/-- Hop count and hop limit of a record: within the limit, below it outside CARRIED, the limit at most 15 (R17, R125). -/
def Record.hopLaw (r : Record) : Prop :=
  r.hops ≤ r.hopLimit ∧ r.hopLimit ≤ 15 ∧ (r.custody.state ≠ .carried → r.hops < r.hopLimit)

/-- Every live record keeps both laws; and what they are drawn from is in range: the legs of a plan 1 to 8, a class's hop
limit 1 to 15, a rule's floor 0 to 3 (R117, R159, R175). -/
def State.recordLaw (s : State) : Prop :=
  (∀ p ∈ s.engine.records, p.2.exposureLaw ∧ p.2.hopLaw) ∧
    (∀ p ∈ s.plans, 1 ≤ p.2.legs.length ∧ p.2.legs.length ≤ 8) ∧
    (∀ c, 1 ≤ (s.dwell.params c).hopLimit ∧ (s.dwell.params c).hopLimit ≤ 15) ∧
    ∀ p ∈ s.rules, p.2.floor ≤ 3

/-! ## Laws of the mode, the links and the queues -/

/-- Device mode: SETUP holds no live record; a FLUSH is in progress exactly in FLUSHING, with its request from the host;
the period timer runs exactly in RUN; a pass is in flight only in RUN, and one is pending only behind one in flight (R163,
R164, R167, R204, R210). -/
def State.modeLaw (s : State) : Prop :=
  (s.engine.mode = .setup → s.engine.records = []) ∧ (s.engine.mode = .flushing ↔ s.engine.flush.isSome) ∧
    (s.engine.mode = .run ↔ s.dwell.timer.isSome) ∧ (s.dwell.cursor.isSome → s.engine.mode = .run) ∧
    (s.dwell.passPending = true → s.dwell.cursor.isSome) ∧ ∀ run, s.engine.flush = some run → run.request.port = .host

/-- A robot link: the silence timer runs exactly while it is UP, its mirror reads 0 while it is DOWN, and its settings are
in range (R135, R195 to R198). -/
def RobotLink.law (k : RobotLink) : Prop :=
  (k.up = true ↔ k.silence.isSome) ∧ (k.up = false → k.mirror = false) ∧ 1 ≤ k.bookWindow ∧ k.bookWindow ≤ 255 ∧
    1 ≤ k.claimWindow ∧ k.claimWindow ≤ 255 ∧ 1 ≤ k.silenceLimit ∧ k.silenceLimit ≤ 40

/-- A zone: T within -120 to 120, passes at most 15, a MANUAL zone not STALE (R152). -/
def Zone.law (z : Zone) : Prop :=
  -120 ≤ z.temperature ∧ z.temperature ≤ 120 ∧ z.passes ≤ 15 ∧ (z.sensor = false → z.stale = false)

/-- Links and zones keep their laws, no input queue holds more than 16 requests and no notice queue more than 64 notices,
and the cells, the roster, the plans and the rules are in canonical form (R152, R192, R195, R212). -/
def State.boundsLaw (s : State) : Prop :=
  s.engine.cells.wf = true ∧ s.engine.roster.wf = true ∧ s.plans.wf = true ∧ s.rules.wf = true ∧
  s.ports.linkA.law ∧ s.ports.linkB.law ∧ (∀ p ∈ s.dwell.zones, p.2.law) ∧
    (∀ port, (s.ports.queue port).length ≤ Config.inputRoom) ∧
    ∀ q, (s.notices.queue q).items.length ≤ Config.noticeRoom

/-! ## Laws of the plans, the roster, the cells, the pickup queues and the deadline list -/

/-- The robot a record names as party and its role (R21, R82). -/
def Custody.partyRole : Custody → Option (Nat × Role)
  | .carried carrier _ => some (carrier, .carrier)
  | .booked carrier .. => some (carrier, .carrier)
  | .staged .. => none
  | .claimed _ claimant _ => some (claimant, .claimant)

/-- The cell a BOOKED record has a place reserved on (R31). -/
def Custody.reservation : Custody → Option Nat
  | .booked _ cell .. => some cell
  | _ => none

/-- How many live records pass a test. -/
def State.countRecords (s : State) (test : Record → Bool) : Nat := (s.engine.records.filter fun p => test p.2).length

/-- Plans: a defined plan's reference count is the number of live records that name it, and a plan that a live record names
is defined (R118). -/
def State.planLaw (s : State) : Prop :=
  (∀ k p, s.plans.look k = some p → p.refs = s.countRecords fun r => r.route.map (·.plan) == some k) ∧
    ∀ q ∈ s.engine.records, ∀ route, q.2.route = some route → (s.plans.look route.plan).isSome = true

/-- Masks: no leg, accept mask, enabled override, stored override or receiver mask is empty (R14, R16, R29, R117, R175). -/
def State.maskLaw (s : State) : Prop :=
  (∀ p ∈ s.plans, ∀ l ∈ p.2.legs, l.mask ≠ 0) ∧ (∀ p ∈ s.engine.cells, p.2.accept ≠ 0) ∧
    (∀ p ∈ s.rules, p.2.overrides = true → p.2.overrideMask ≠ 0) ∧
    ∀ p ∈ s.engine.records, (∀ spot, p.2.custody.spot = some spot → spot.mask ≠ 0) ∧
      ∀ n k receiver m timing, p.2.custody = .booked n k receiver (some m) timing → m ≠ 0

/-- Parties: an enrolled robot's party reference names a record and a role exactly when that live record names the robot as
its party in that role, and a live record's party is enrolled (R82). -/
def State.partyLaw (s : State) : Prop :=
  (∀ n e, s.robot n = some e → ∀ h role,
    e.party = some (h, role) ↔ ∃ r, s.recordOf h = some r ∧ r.custody.partyRole = some (n, role)) ∧
    ∀ p ∈ s.engine.records, ∀ n, p.2.custody.party = some n → (s.robot n).isSome = true

/-- A defined cell: its stack lists, once each, the STAGED and CLAIMED records on it, a CLAIMED one only on top; its reserved
count is the number of records BOOKED for it; and the two together are within a capacity of 1 to 4 (R31 to R33, R35). -/
def State.cellKept (s : State) (n : Nat) (c : Cell) : Prop :=
  c.stack.Nodup ∧
    (∀ h, h ∈ c.stack ↔ ∃ r spot, s.recordOf h = some r ∧ r.custody.spot = some spot ∧ spot.cell = n) ∧
    (∀ h r, s.recordOf h = some r → r.custody.state = .claimed → h ∈ c.stack → c.stack.getLast? = some h) ∧
    c.reserved = (s.countRecords fun r => r.custody.reservation == some n) ∧
    c.stack.length + c.reserved ≤ c.capacity ∧ 1 ≤ c.capacity ∧ c.capacity ≤ 4

/-- Cells: every defined cell is kept so, and the cell that a live record is booked for or stands on is defined (R31 to
R33). -/
def State.cellLaw (s : State) : Prop :=
  (∀ n c, s.cell n = some c → s.cellKept n c) ∧
    ∀ p ∈ s.engine.records, ∀ n, p.2.custody.cell = some n → (s.cell n).isSome = true

/-- Pickup queues: a record stands in the queue of a group exactly when it is STAGED, the top of its cell's stack, and the
group is in its receiver mask; no queue holds a record twice; an entry's priority and stage sequence are the record's own; and
no record stands before one of higher priority (R95 to R97). -/
def State.queueLaw (s : State) : Prop :=
  ∀ g, g < 8 →
    ((s.queueOf g).map (·.handle)).Nodup ∧ ((s.queueOf g).Pairwise fun x y => y.priority ≤ x.priority) ∧
      ∀ e, e ∈ s.queueOf g ↔ ∃ r spot lapsed, s.recordOf e.handle = some r ∧ r.custody = .staged spot lapsed ∧
        s.cellTop spot.cell = some e.handle ∧ spot.mask.getLsbD g = true ∧ e.priority = r.priority ∧ e.seq = spot.seq

/-- Every pickup queue is in the order of R96 as the stage sequence counter stands (log 7). -/
def State.queueOrder (s : State) : Prop :=
  ∀ g, g < 8 → (s.queueOf g).Pairwise fun x y => pickupLe s.engine.stageSeq x y = true

/-- No queue entry is so old that one more SETDOWN would wrap its age. -/
def State.queuesYoung (s : State) : Prop :=
  ∀ g, g < 8 → ∀ e ∈ s.queueOf g, seqAge s.engine.stageSeq e.seq + 1 < 2 ^ 32

/-- The deadline list: one entry for each record that has a deadline, with that deadline and the kind of the record's state,
and no other; and a BOOKED or CLAIMED record has a deadline, not a saved time, exactly while the link its party was last heard
on is UP (R19, R136, R146). -/
def State.deadlineLaw (s : State) : Prop :=
  (s.timer.list.map (·.handle)).Nodup ∧
    (∀ h d kind, (∃ raised, ⟨d, h, kind, raised⟩ ∈ s.timer.list) ↔
      ∃ r, s.recordOf h = some r ∧ r.custody.timing = some (.armed d) ∧ r.deadlineKind = kind) ∧
    ∀ p ∈ s.engine.records, ∀ n, p.2.custody.timing.isSome = true → p.2.custody.party = some n →
      ∃ l, (s.robot n).bind (·.lastLink) = some l ∧ (s.linkUp l = true ↔ p.2.isArmed = true)

/-- The deadline list is in order of instant; no instant is further ahead, and no saved time longer, than the longest window,
255 quarter seconds (R136, R137, R197). -/
def State.deadlineOrder (s : State) : Prop :=
  (s.timer.list.Pairwise fun x y => 0 ≤ (y.instant - x.instant).toInt) ∧
    (∀ e ∈ s.timer.list, (e.instant - s.timer.clock).toInt ≤ 63750) ∧
    ∀ p ∈ s.engine.records, ∀ saved, p.2.custody.timing = some (.held saved) → saved ≤ 63750

/-- No entry of the deadline list was reached as much as 2^30 milliseconds ago. -/
def State.timely (s : State) : Prop := ∀ e ∈ s.timer.list, -(2 ^ 30) < (e.instant - s.timer.clock).toInt

/-- Every law that holds from a device reset on, whatever the part is commanded. -/
def State.laws (s : State) : Prop :=
  s.slotLaw ∧ s.recordLaw ∧ s.planLaw ∧ s.maskLaw ∧ s.partyLaw ∧ s.cellLaw ∧ s.queueLaw ∧ s.deadlineLaw ∧ s.modeLaw ∧
    s.boundsLaw

end Sys2Proof.Machine
end

