-- ==== Sys2Proof/Certificates/Slice0/Obligations.lean ====
section
/-! DEFINITION. The statements. A request is served in the state `u` (or, for a robot, `v` after intake) that
`State.hostTakes` and `State.robotTakes` name; how a request comes to be handed over and how its reply leaves are statements
of their own. `{ v with … }` says that every field not named is as it was. -/

open Sys2Proof Sys2Proof.Machine

/-! ## The queue of commands, and the words on the wire -/

/-- A step runs the command at the front of the queue on the state with the queue's rest; on an empty queue it changes
nothing, which is the model's choice (log 2). Every command answers a next state and leaves the waiting commands. -/
def Obligations.StepRunsFrontCommand : Prop :=
  (∀ (s : State) (c : Instr) (rest : List Instr),
    s.pending = c :: rest → step s = exec c { s with pending := rest }) ∧
  (∀ s : State, s.pending = [] → step s = .next s) ∧
  ∀ (c : Instr) (s : State), ∃ t : State, exec c s = .next t ∧ t.pending = s.pending

/-- The bytes of a frame are a good frame and give the frame back; and the request frame of a well-formed command, sent as
bytes, spells that command, its port takes its kind, and the body tables allow its length (R189, R191, R202, R203). -/
def Obligations.RequestBytesGiveCommandBack : Prop :=
  (∀ f : Frame, f.body.length ≤ 48 → goodFrame f.port f.bytes = some f ∧ f.bytes.length = 10 + f.body.length) ∧
  ∀ (i : Instr) (f : Frame), i.wellFormed = true → i.frame = some f →
    (goodFrame f.port f.bytes).bind Frame.command = some i ∧ portTakes f.port f.kind.toNat = true ∧
      lengthAllowed f.kind.toNat f.body.length = true

/-! ## Frames arriving -/

/-- A run of bytes that is too short, of the wrong length, or whose check does not agree, is discarded on any port. A good
frame on the management port changes no link: an idle one changes nothing, another meets the port checks (R189, R190). -/
def Obligations.FramesDiscardedOrPresented : Prop :=
  (∀ (s : State) (bytes : List Byte) (f : Frame), goodFrame .host bytes = some f →
    exec (.frameArrival .host bytes) s = .next (if f.kind = 0 then s else s.present f)) ∧
  ∀ (s : State) (port : Port) (bytes : List Byte),
    (bytes.length < 10 ∨ bytes.length ≠ 10 + (half (bytes.getD 6 0) (bytes.getD 7 0)).toNat ∨
      bytes.drop (bytes.length - 2) ≠ be16 (crc (bytes.take (bytes.length - 2)))) →
    exec (.frameArrival port bytes) s = .next s

/-- A good frame on a robot link restarts the silence timer, sets the mirror and makes the link UP. When the link was DOWN,
the held records of its parties are armed at the clock plus their saved time, in ascending slot order, and LINK receives an
edge. Then an idle frame is done with, and another meets the port checks (R189, R190, R147, R214). -/
def Obligations.GoodFrameOnLink : Prop :=
  ∀ (s : State) (l : Link) (bytes : List Byte) (f : Frame),
    goodFrame (.link l) bytes = some f → s.engine.records.wf = true →
    ∃ v : State, exec (.frameArrival (.link l) bytes) s = .next (if f.kind = 0 then v else v.present f) ∧
      v.ports = s.ports.modLink l (fun k =>
        { k with
          up := true
          mirror := f.flags.getLsbD 0
          silence := some (k.silenceLimit * 250) }) ∧
      (s.linkUp l = true → v = { s with ports := v.ports }) ∧
      (s.linkUp l = false →
        v = { s with
              ports := v.ports
              engine := { s.engine with records := v.engine.records }
              timer := { s.timer with list := v.timer.list }
              notices :=
                { s.notices with
                  linkEdge := ⟨true, s.notices.linkEdge.overrun || s.notices.linkEdge.pending⟩ } } ∧
        (∀ n, v.engine.records.look n = (s.engine.records.look n).map fun r =>
          if s.partyOn r l then r.retimed (Timing.armedAt s.timer.clock) else r) ∧
        v.timer.list = (s.engine.records.filterMap fun p =>
          if s.partyOn p.2 l then
            match p.2.custody.timing with
            | some (.held saved) =>
              some ⟨s.timer.clock + BitVec.ofNat 32 saved, s.handleOf p.1, p.2.deadlineKind, false⟩
            | _ => none
          else none).foldl (fun ds d => insertDeadline d ds) s.timer.list)

/-- When an UP link's silence timer has run out the link goes DOWN: its mirror reads 0, the armed records of its parties keep
the time left and lose their entries, nothing else of a record changes, and LINK receives an edge (R146, R195, R196, R214). In
any other case the command changes nothing (the model's choice, log 4 and log 21). -/
def Obligations.SilenceTimerExpiry : Prop :=
  ∀ (s : State) (l : Link), s.engine.records.wf = true →
    (¬ (s.linkUp l = true ∧ (s.ports.robotLink l).silence = some 0) → exec (.silenceTimerExpiry l) s = .next s) ∧
    (s.linkUp l = true → (s.ports.robotLink l).silence = some 0 →
      ∃ t : State, exec (.silenceTimerExpiry l) s = .next t ∧
        t = { s with
              ports := s.ports.modLink l fun k =>
                { k with
                  up := false
                  silence := none
                  mirror := false }
              engine := { s.engine with records := t.engine.records }
              timer := { s.timer with list := t.timer.list }
              notices :=
                { s.notices with
                  linkEdge := ⟨true, s.notices.linkEdge.overrun || s.notices.linkEdge.pending⟩ } } ∧
        (∀ n, t.engine.records.look n = (s.engine.records.look n).map fun r =>
          if s.partyOn r l then r.retimed (Timing.heldAt s.timer.clock) else r) ∧
        t.timer.list.Sublist s.timer.list ∧
        ∀ e, e ∈ t.timer.list ↔ e ∈ s.timer.list ∧
          ∀ r, s.engine.records.look e.handle.slot = some r → e.handle = s.handleOf e.handle.slot →
            ¬ (s.partyOn r l = true ∧ r.isArmed = true))

/-- The port checks in their order: an unknown kind, a kind the port does not take, a length that is not in the body tables,
a full queue. A frame that passes joins the tail of its port's queue and changes nothing else; a refusal leaves at once, and
on a robot link only while it is UP (R191, R192, R194, R203). On the management port a refusal is a reply of one segment,
index 0 and count 1, which is inferred (log 17). -/
def Obligations.PortChecksInOrder : Prop :=
  ∀ (s : State) (f : Frame),
    let k := f.kind.toNat
    let refusal := fun (r : Result) =>
      match f.port with
      | .link l => if s.linkUp l then
          { s with sent := s.sent ++ [⟨f.port, f.kind ||| 0x80#8, r.code, f.tag, f.robot, []⟩] } else s
      | .host => { s with sent := s.sent ++ [⟨.host, f.kind ||| 0x80#8, r.code, f.tag, 1, []⟩] }
    s.present f =
      if ¬ ((1 ≤ k ∧ k ≤ 0x0B) ∨ (0x20 ≤ k ∧ k ≤ 0x47 ∧ k ≠ 0x33)) then refusal .unknownKind
      else if ¬ (if f.port = .host then 0x20 ≤ k else k ≤ 0x0B) then refusal .notPermitted
      else if ¬ lengthAllowed k f.body.length = true then refusal .badField
      else if (s.ports.queue f.port).length < 16 then
        { s with ports := s.ports.setQueue f.port (s.ports.queue f.port ++ [f]) }
      else refusal .busy

/-! ## The rotation and the replies -/

/-- From the port the pointer names, in cyclic order, the engine takes the head of the first queue that is not empty; the
pointer moves to the port after the one served, and nothing else of the Port Unit changes. With three empty queues nothing
is taken (R192, R193). -/
def Obligations.RotationTakesTheNextRequest : Prop :=
  ∀ (p : PortUnit),
    ((∀ q, p.queue q = []) → p.nextRequest = none ∧ p.take = p) ∧
    ∀ (q : Port) (f : Frame) (rest : List Frame), p.queue q = f :: rest →
      (p.pointer = q ∨ (portAfter p.pointer = q ∧ p.queue p.pointer = []) ∨
        (portAfter (portAfter p.pointer) = q ∧ p.queue p.pointer = [] ∧ p.queue (portAfter p.pointer) = [])) →
      p.nextRequest = some f ∧ p.take = { p.setQueue q rest with pointer := portAfter q } ∧
        p.take.queue q = rest ∧ ∀ q', q' ≠ q → p.take.queue q' = p.queue q'

/-- A request that the rotation hands over next is taken as it waits, without being presented again; one that it does not is
presented at its port, and is taken if the rotation then hands it over; otherwise the step presents it and does no more, so it
waits there or has been refused. With three empty queues a well-formed request is taken at once, and the pointer moves to the
port after its own (R191 to R193). That a request command presents its own frame is the model's choice (log 1). -/
def Obligations.RequestWaitsItsTurn : Prop :=
  (∀ (s : State) (c : Instr) (f : Frame), c.frame = some f → c.wellFormed = true → (∀ q, s.ports.queue q = []) →
    s.ready c = some (f, { s with ports := { s.ports with pointer := portAfter f.port } })) ∧
  ∀ (s : State) (c : Instr) (f : Frame), c.frame = some f →
    let p := s.present f
    (s.ports.nextRequest = some f → s.ready c = some (f, { s with ports := s.ports.take })) ∧
    (s.ports.nextRequest ≠ some f → p.ports.nextRequest = some f →
      s.ready c = some (f, { s with ports := p.ports.take }) ∧
        p.ports = s.ports.setQueue f.port (s.ports.queue f.port ++ [f])) ∧
    (s.ports.nextRequest ≠ some f → p.ports.nextRequest ≠ some f → s.ready c = none) ∧
    (s.ready c = none → exec c s = .next p)

/-- A robot request taken outside RUN is answered NOT_READY; in RUN one whose robot field is 0, above 1023 or names no
enrolled robot is answered UNKNOWN_ROBOT. Every management request other than STATUS that is taken while a FLUSH is in progress
is answered BUSY. Nothing else changes (R49, R205). -/
def Obligations.ModeAndIntakeRefusals : Prop :=
  (∀ (s : State) (c : Instr) (f : Frame) (u : State), s.ready c = some (f, u) → f.port = .host → f.kind ≠ 0x21 →
    u.engine.mode = .flushing → exec c s = .next (u.respond f ⟨.busy, [[]]⟩)) ∧
  ∀ (s : State) (c : Instr) (f : Frame) (u : State) (l : Link), s.ready c = some (f, u) → f.port = .link l →
    (u.engine.mode ≠ .run → exec c s = .next (u.respond f ⟨.notReady, [[]]⟩)) ∧
    (u.engine.mode = .run → (f.robot = 0 ∨ 1023 < f.robot.toNat ∨ u.robot f.robot.toNat = none) →
      exec c s = .next (u.respond f ⟨.unknownRobot, [[]]⟩))

/-- The link update of intake: the last link becomes the request's link, and a BOOKED or CLAIMED record the robot is party
to is armed again when that link is UP and it is held, held when that link is DOWN and it is armed, else left as it is
(R50). -/
def Obligations.IntakeLinkUpdate : Prop :=
  ∀ (u : State) (f : Frame) (l : Link) (n : Nat) (v : State), f.port = .link l → u.intake f = some (n, v) →
    ∃ e, n = f.robot.toNat ∧ u.robot n = some e ∧ v.robot n = some { e with lastLink := some l } ∧
      u.engine.roster.sameBut v.engine.roster n ∧
      v = { u with
            engine := { u.engine with records := v.engine.records, roster := v.engine.roster }
            timer := { u.timer with list := v.timer.list } } ∧
      (e.party = none → v.engine.records = u.engine.records ∧ v.timer.list = u.timer.list) ∧
      ∀ h role r, e.party = some (h, role) → u.engine.records.look h.slot = some r →
        u.engine.records.sameBut v.engine.records h.slot ∧
        v.engine.records.look h.slot =
          some (r.retimed (if u.linkUp l then Timing.armedAt u.timer.clock else Timing.heldAt u.timer.clock)) ∧
        v.timer.list =
          match u.linkUp l, r.custody.timing with
          | true, some (.held saved) =>
            insertDeadline ⟨u.timer.clock + BitVec.ofNat 32 saved, u.handleOf h.slot, r.deadlineKind, false⟩ u.timer.list
          | false, some (.armed _) => u.timer.list.filter fun d => d.handle ≠ u.handleOf h.slot
          | _, _ => u.timer.list

/-- A reply carries the request's kind with the reply bit set, the result and the tag. On a robot link it carries the robot
field, in one frame, and is discarded while the link is DOWN; on the management port each segment carries its index and the
count. Behind a FLUSH in progress it waits (R52, R190, R194). That a reply leaves, or is discarded, in the step that forms
it, by the link's state then, is inferred (log 23), and so is the waiting (log 6). -/
def Obligations.RepliesLeaveByTheirPort : Prop :=
  ∀ (s : State) (f : Frame) (a : Answer) (body : List Byte),
    (∀ l, f.port = .link l → a.segments = [body] → s.respond f a =
      if s.linkUp l then
        { s with sent := s.sent ++ [⟨.link l, f.kind ||| 0x80#8, a.result.code, f.tag, f.robot, body⟩] } else s) ∧
    (f.port = .host →
      let frames := a.segments.mapIdx fun i b =>
        (⟨.host, f.kind ||| 0x80#8, a.result.code, f.tag, BitVec.ofNat 16 (256 * i + a.segments.length), b⟩ : Frame)
      s.respond f a =
        if s.engine.flush.isSome then { s with ports := { s.ports with unsent := s.ports.unsent ++ frames } }
        else { s with sent := s.sent ++ frames })

/-! ## What the custody steps share -/

/-- The party test of BOOK, UNBOOK, SETDOWN, YIELD, TAKEUP and FINISH (a BOOK's fields in range): a handle that does not
resolve is answered STALE_HANDLE; a record not in the required state with the robot as party is answered LATE where the check
list names it and the lapsed robot is the requester, posting a LATE_REPORT notice, else NOT_PARTY in the required state and
WRONG_STATE in another (R2, R22, R53, R59). That the notice's detail is the kind code of the request is inferred (log 22). -/
def Obligations.PartyTestAnswers : Prop :=
  ∀ (s : State) (c : Instr) (f : Frame) (n : Nat) (v : State) (raw : Half) (need : RecordState) (late : Bool),
    s.robotTakes c f n v → partyRequest c = some (raw, need, late) →
    (v.resolve raw = none → exec c s = .next (v.respond f ⟨.staleHandle, [[]]⟩)) ∧
    ∀ h r, v.resolve raw = some (h, r) → ¬ (r.custody.state = need ∧ r.custody.party = some n) →
      exec c s =
        if late = true ∧ r.custody.lapsed = some n then
          .next ((v.post .timing ⟨.lateReport, 0, some h, some r.bin, some n, r.custody.cell, some r.presentZone,
            f.kind⟩).respond f ⟨.late, [[]]⟩)
        else .next (v.respond f ⟨if r.custody.state = need then .notParty else .wrongState, [[]]⟩)

/-- The evaluation of the policy rules: the first valid rule, in index order, each of whose nine fields agrees with the key
in every cared bit. Its hit flag is set; a notice is posted when notify-always or notify-once is set, with the rule's index and
the denied bit; notify-once is cleared unless notify-always is set. Without a match nothing is done (R176, R179, R183, R184,
R203). -/
def Obligations.PolicyEvaluation : Prop :=
  (∀ (s : State) (k : Key) (i : Nat) (r : Rule), s.rules.wf = true →
    let agrees := fun (m : MatchField) (key : Byte) => ∀ b, b < 8 → m.care.getLsbD b = true → m.value.getLsbD b = key.getLsbD b
    let hits := fun (r : Rule) => r.valid = true ∧ agrees r.fields.point k.point ∧ agrees r.fields.cls k.cls ∧
      agrees r.fields.priority k.priority ∧ agrees r.fields.originZone k.originZone ∧
      agrees r.fields.targetZone k.targetZone ∧ agrees r.fields.planned k.planned ∧ agrees r.fields.overdue k.overdue ∧
      agrees r.fields.hops k.hops ∧ agrees r.fields.wave k.wave
    (s.matchRule k = some (i, r) ↔
      s.rules.look i = some r ∧ hits r ∧ ∀ j r', j < i → s.rules.look j = some r' → ¬ hits r') ∧
    (s.matchRule k = none ↔ ∀ j r', s.rules.look j = some r' → ¬ hits r')) ∧
  ∀ (s : State) (notice : Byte → Notice) (denied : Bool),
    s.takeRule none notice denied = s ∧
    ∀ i r, s.rules.look i = some r → r.valid = true →
      let t := s.takeRule (some (i, r)) notice denied
      t = { s with rules := t.rules, notices := t.notices } ∧
      t.rules.look i = some { r with hit := true, notifyOnce := r.notifyOnce && r.notifyAlways } ∧
      s.rules.sameBut t.rules i ∧
      t.notices =
        if r.notifyAlways = true ∨ r.notifyOnce = true then
          (s.post .rule (notice (BitVec.ofNat 8 (i + if denied then 128 else 0)))).notices
        else s.notices

/-- The custody check by mode (R106). -/
def Obligations.CustodyCheckModes : Prop :=
  ∀ (s : State) (n : Nat) (e : Robot) (spot : Spot) (c : Cell), s.robot n = some e → s.cell spot.cell = some c →
    let inMask := spot.mask.getLsbD e.group
    let designee := fun d => spot.receiver = some d ∧ (s.robot d).isSome
    (s.custodyCheck n spot = true ↔
      match c.check with
      | .off => True
      | .group => inMask = true
      | .robot => ∀ d, designee d → d = n
      | .combined => (∃ d, designee d ∧ d = n) ∨ ((∀ d, ¬ designee d) ∧ inMask = true))

/-- The pickup queues: an enter adds one entry for the record to each queue of the mask that does not hold it, a leave takes
the record out of every queue, a priority change rewrites its entry, a mask change of a standing record moves it from the
queues of the old mask alone to those of the new, and no other record's entry is touched; a queue that a step changes is in
the order of R96 as the counter then stands. Of two members the one of higher priority stands first, then the greater age,
then the lower slot; and members of one priority whose ages are fewer than 2^31 apart stand in the order of the signed
difference of their stage sequences (R96, R97, R98; that "apart" is measured by age is inferred, log 7). -/
def Obligations.PickupQueueChanges : Prop :=
  (∀ (s : State) (h : Handle) (old mask : Byte) (prio : Nat) (seq : Word) (g : Nat), g < 8 →
    let q := s.queueOf g
    let stands := ∃ k, k < 8 ∧ standsIn h (s.queueOf k) = true
    ((s.enter h mask prio seq).queueOf g).Perm
        (if mask.getLsbD g = true ∧ standsIn h q = false then ⟨h, prio, seq⟩ :: q else q) ∧
    ((s.leave h).queueOf g).Perm (q.filter fun e => e.handle ≠ h) ∧
    ((s.priorityChange h prio).queueOf g).Perm
        (q.map fun e => if e.handle = h then { e with priority := prio } else e) ∧
    (¬ stands → s.maskChange h old mask prio seq = s) ∧
    (stands → ((s.maskChange h old mask prio seq).queueOf g).Perm
        (if old.getLsbD g = true ∧ mask.getLsbD g = false then q.filter fun e => e.handle ≠ h
         else if mask.getLsbD g = true ∧ old.getLsbD g = false ∧ standsIn h q = false then ⟨h, prio, seq⟩ :: q
         else q)) ∧
    (∀ t ∈ [s.enter h mask prio seq, s.leave h, s.priorityChange h prio, s.maskChange h old mask prio seq],
      t = { s with pickup := t.pickup } ∧
        (t.queueOf g ≠ q →
          (t.queueOf g).Pairwise fun x y => pickupLe s.engine.stageSeq x y = true))) ∧
  ∀ (counter : Word) (x y : PickupEntry),
    let age := fun (e : PickupEntry) => (counter - e.seq).toNat
    (pickupLe counter x y = true ↔
      y.priority < x.priority ∨ (x.priority = y.priority ∧
        (age y < age x ∨ (age x = age y ∧ x.handle.slot ≤ y.handle.slot)))) ∧
    (x.priority = y.priority → x.seq ≠ y.seq → age x < age y + 2 ^ 31 → age y < age x + 2 ^ 31 →
      (pickupLe counter x y = true ↔ 0 < (y.seq - x.seq).toInt))

/-! ## DECLARE and BOOK -/

/-- An accepted DECLARE opens the record at the head of the Free Slot Queue, with the fields R9 lays down and the actions of
the matched rule, and makes the robot its carrier; the plan gains a record, and a live count that rises from 1791 to 1792
gives the CAPACITY edge (R1, R4, R6, R9, R57, R58, R161, R182). That the key's point is 0 at DECLARE, and a flag of it 0 or
1, is inferred (log 24). -/
def Obligations.DeclareOpensRecord : Prop :=
  ∀ (s : State) (l : Link) (hd : Hdr) (bin : Word) (cls zone plan wave priority : Byte) (f : Frame) (n : Nat) (v : State)
    (e : Robot) (tc : ThermalClass) (slot : Nat) (rest : List Nat),
    s.robotTakes (.declare l hd bin cls zone plan wave priority) f n v →
    v.robot n = some e → e.party = none → tc.code = cls → bin ≠ 0 → zone.toNat ≤ 15 →
    (plan = 255 ∨ ∃ p, v.plans.look plan.toNat = some p) → v.engine.binIndex.look bin.toNat = none →
    v.engine.freeSlots = slot :: rest →
    let prio := min 3 priority.toNat
    let m := v.matchRule ⟨0, cls, BitVec.ofNat 8 prio, zone, zone, if plan = 255 then 0 else 1, 0, 0, wave⟩
    let h : Handle := ⟨slot, v.generation slot⟩
    let rule := fun (α : Type) (d : α) (g : Rule → α) => (m.map fun p => g p.2).getD d
    let cp := v.dwell.params tc
    let scaled := match rule Scale .one Rule.scale with
      | .halved => cp.budget / 2
      | .one => cp.budget
      | .two => cp.budget * 2
      | .four => cp.budget * 4
    let r : Record :=
      { bin := bin.toNat
        cls := tc
        wave := wave
        priority := max prio (rule Nat 0 Rule.floor)
        originZone := zone.toNat
        presentZone := zone.toNat
        route := if plan = 255 then none else some ⟨plan.toNat, 0⟩
        hops := 0
        hopLimit := if plan = 255 then cp.hopLimit else ((v.plans.look plan.toNat).map (·.legs.length)).getD 0
        exposure := 0
        budget := if scaled = 0 then 1 else if 65535 < scaled then 65535 else scaled
        warned := false
        overdue := false
        exempt := rule Bool false Rule.exempt
        rescued := false
        openedAt := v.timer.clock
        custody := .carried n none }
    let w := v.takeRule m
      (fun detail => ⟨.ruleMatch, 0, some h, some bin.toNat, some n, none, some zone.toNat, detail⟩) false
    ∃ t : State, exec (.declare l hd bin cls zone plan wave priority) s = .next (t.respond f
          ⟨.ok, [be16 h.wire ++ [byteOf r.priority, byteOf r.hopLimit] ++ be16 (halfOf r.budget)]⟩) ∧
      t = { w with
            engine :=
              { v.engine with
                freeSlots := rest
                records := t.engine.records
                binIndex := t.engine.binIndex
                roster := t.engine.roster }
            plans := t.plans
            notices := t.notices } ∧
      t.engine.records.look slot = some r ∧ v.engine.records.sameBut t.engine.records slot ∧
      t.engine.binIndex.look bin.toNat = some slot ∧ v.engine.binIndex.sameBut t.engine.binIndex bin.toNat ∧
      t.robot n = some { e with party := some (h, .carrier) } ∧ v.engine.roster.sameBut t.engine.roster n ∧
      (plan = 255 → t.plans = v.plans) ∧
      (∀ p, plan ≠ 255 → v.plans.look plan.toNat = some p →
        t.plans.look plan.toNat = some { p with refs := p.refs + 1 } ∧ v.plans.sameBut t.plans plan.toNat) ∧
      t.notices =
        if v.liveCount = 1791 ∧ t.liveCount = 1792 then
          { w.notices with capacityEdge := ⟨true, w.notices.capacityEdge.overrun || w.notices.capacityEdge.pending⟩ }
        else w.notices

/-- DECLARE's checks in their order; a refused DECLARE changes nothing beyond the link update (R4, R51, R56). -/
def Obligations.DeclareChecksInOrder : Prop :=
  ∀ (s : State) (l : Link) (hd : Hdr) (bin : Word) (cls zone plan wave priority : Byte) (f : Frame) (n : Nat) (v : State),
    s.robotTakes (.declare l hd bin cls zone plan wave priority) f n v →
    let refused := fun (r : Result) =>
      exec (.declare l hd bin cls zone plan wave priority) s = .next (v.respond f ⟨r, [[]]⟩)
    if ((v.robot n).bind (·.party)).isSome then refused .robotBusy
    else if bin = 0 ∨ 2 < cls.toNat ∨ 15 < zone.toNat then refused .badField
    else if plan ≠ 255 ∧ v.plans.look plan.toNat = none then refused .badPlan
    else if v.engine.binIndex.look bin.toNat ≠ none then refused .duplicate
    else v.engine.freeSlots = [] → refused .tableFull

/-- An accepted BOOK books the record on the cell: receiver, override and floor as the request and the matched rule give
them, the lapsed robot cleared; the cell's reserved count rises, a DRAINING cell's admit count falls; and the booking is
timed by the request's link's window, armed while that link is UP and held whole while it is DOWN (R59 to R61, R135, R137,
R181). That the key's point is 1 at BOOK, and a flag of it 0 or 1, is inferred (log 24). -/
def Obligations.BookReservesPlace : Prop :=
  ∀ (s : State) (l : Link) (hd : Hdr) (handle cell receiver : Half) (f : Frame) (n : Nat) (v : State) (h : Handle)
    (r : Record) (lapsed : Option Nat) (c : Cell),
    s.robotTakes (.book l hd handle cell receiver) f n v → cell.toNat ≤ 1023 → receiver.toNat ≤ 1023 →
    v.resolve handle = some (h, r) → r.custody = .carried n lapsed → r.hops < r.hopLimit →
    v.cell cell.toNat = some c → (c.state = .opened ∨ (c.state = .draining ∧ 0 < c.admissions)) →
    (∀ route, r.route = some route → ∃ leg, v.legOf route = some leg ∧ c.groups.getLsbD leg.group = true) →
    c.stack.length + c.reserved < c.capacity →
    let m := v.matchRule ⟨1, r.cls.code, byteOf r.priority, byteOf r.originZone, byteOf c.zone,
      if r.route.isSome then 1 else 0, if r.overdue then 1 else 0, byteOf r.hops, r.wave⟩
    (∀ p : Nat × Rule, m = some p → p.2.deny = false) →
    let w := v.takeRule m (fun detail =>
      ⟨.ruleMatch, 0, some h, some r.bin, some n, some cell.toNat, some c.zone, detail⟩) false
    let window := (v.ports.robotLink l).bookWindow
    let deadline := v.timer.clock + BitVec.ofNat 32 (window * 250)
    exec (.book l hd handle cell receiver) s = .next (State.respond
      { w with
        engine :=
          { v.engine with
            records := v.engine.records.put h.slot
              { r with
                priority := max r.priority ((m.map fun p => p.2.floor).getD 0)
                custody := .booked n cell.toNat (if receiver = 0 then none else some receiver.toNat)
                  (m.bind fun p => if p.2.overrides then some p.2.overrideMask else none)
                  (if v.linkUp l then .armed deadline else .held (window * 250)) }
            cells := v.engine.cells.put cell.toNat
              { c with
                reserved := c.reserved + 1
                admissions := if c.state = .draining then c.admissions - 1 else c.admissions } }
        timer :=
          { v.timer with
            list := if v.linkUp l then insertDeadline ⟨deadline, h, .booking, false⟩ v.timer.list else v.timer.list } } f
      ⟨.ok, [be16 h.wire ++ be16 cell ++ [byteOf c.stack.length, byteOf window, if v.linkUp l then 0 else 1]]⟩)

/-- BOOK's checks in their order, but for the handle and the party test. A BOOK denied by policy marks the rule and takes its
notify actions, with the denied bit; any other refusal changes nothing beyond the link update (R51, R59, R62, R181). The
codes of the key are inferred (log 24). -/
def Obligations.BookChecksInOrder : Prop :=
  ∀ (s : State) (l : Link) (hd : Hdr) (handle cell receiver : Half) (f : Frame) (n : Nat) (v : State),
    s.robotTakes (.book l hd handle cell receiver) f n v →
    let out := fun (t : State) (r : Result) => exec (.book l hd handle cell receiver) s = .next (t.respond f ⟨r, [[]]⟩)
    (1023 < cell.toNat ∨ 1023 < receiver.toNat → out v .badField) ∧
    (cell.toNat ≤ 1023 → receiver.toNat ≤ 1023 → ∀ h r lapsed,
      v.resolve handle = some (h, r) → r.custody = .carried n lapsed →
      (r.hopLimit ≤ r.hops → out v .hopLimit) ∧
      (r.hops < r.hopLimit →
        (v.cell cell.toNat = none → out v .cellUnknown) ∧
        ∀ c, v.cell cell.toNat = some c →
          if c.state = CellState.closed ∨ (c.state = CellState.draining ∧ c.admissions = 0) then out v .cellClosed
          else if r.route.isSome ∧ ((r.route.bind v.legOf).map fun leg => c.groups.getLsbD leg.group) ≠ some true then
            out v .notInLeg
          else if c.capacity ≤ c.stack.length + c.reserved then out v .cellFull
          else ∀ p : Nat × Rule, v.matchRule (bookKey r c.zone) = some p → p.2.deny = true →
            out (v.takeRule (some p) (fun detail =>
              ⟨.ruleMatch, 0, some h, some r.bin, some n, some cell.toNat, some c.zone, detail⟩) true) .policy))

/-! ## UNBOOK, SETDOWN, CLAIM, SEEK, YIELD, TAKEUP, FINISH -/

/-- An accepted UNBOOK makes the record CARRIED by the same carrier: cell, receiver, override and timing go, its deadline
entry is removed, the place on the cell is given back, the admit count is not restored, and the close check runs; the reply
tells the cell's state after it (R63, R138). An accepted YIELD makes the record STAGED in place: the claimant is party to
nothing and keeps its miss count, the deadline entry goes, and the record enters the queues of its mask with its priority and
stage sequence (R72, R101, R138). The close check makes a DRAINING cell with no admissions left, an empty stack and no
reservation CLOSED, and raises a CLOSED event in its zone; any other cell is left as it is (R41). -/
def Obligations.UnbookYieldAndCloseCheck : Prop :=
  (∀ (s : State) (l : Link) (hd : Hdr) (handle : Half) (f : Frame) (n : Nat) (v : State) (h : Handle) (r : Record)
    (k : Nat) (receiver : Option Nat) (ov : Option Byte) (timing : Timing) (c : Cell),
    s.robotTakes (.unbook l hd handle) f n v → v.resolve handle = some (h, r) →
    r.custody = .booked n k receiver ov timing → v.cell k = some c →
    let t := State.closeCheck
      { v with
        engine :=
          { v.engine with
            records := v.engine.records.put h.slot { r with custody := .carried n none }
            cells := v.engine.cells.put k { c with reserved := c.reserved - 1 } }
        timer := { v.timer with list := v.timer.list.filter fun d => d.handle ≠ h } } k
    exec (.unbook l hd handle) s = .next (t.respond f ⟨.ok, [be16 h.wire ++
      [if c.state = .draining ∧ c.admissions = 0 ∧ c.stack = [] ∧ c.reserved ≤ 1 then 2 else c.state.code]]⟩)) ∧
  (∀ (s : State) (l : Link) (hd : Hdr) (handle : Half) (f : Frame) (n : Nat) (v : State) (h : Handle) (r : Record)
    (spot : Spot) (timing : Timing) (e : Robot),
    s.robotTakes (.yieldBin l hd handle) f n v → v.resolve handle = some (h, r) → r.custody = .claimed spot n timing →
    v.robot n = some e →
    let t := State.enter
      { v with
        engine :=
          { v.engine with
            records := v.engine.records.put h.slot { r with custody := .staged spot none }
            roster := v.engine.roster.put n { e with party := none } }
        timer := { v.timer with list := v.timer.list.filter fun d => d.handle ≠ h } } h spot.mask r.priority spot.seq
    exec (.yieldBin l hd handle) s = .next (t.respond f ⟨.ok, [be16 h.wire ++ [smallField (v.position spot.cell h)]]⟩)) ∧
  ∀ (s : State) (k : Nat) (c : Cell), s.cell k = some c →
    (c.closes → s.closeCheck k =
      State.countEvent
        { s with engine := { s.engine with cells := s.engine.cells.put k { c with state := .closed } } } .closed c.zone 0) ∧
    (¬ c.closes → s.closeCheck k = s)

/-- SETDOWN onto a cell whose top is CLAIMED is answered COVERS_CLAIM and changes nothing. Otherwise the record is STAGED on
top of the stack with the counter's value as its stage sequence, its mask from the override, the leg or the cell, and its
present zone the cell's; the counter advances, the reserved place becomes a place on the stack, the deadline entry goes, the
carrier is party to nothing, the buried bin leaves the queues, the record enters those of its mask, and a STAGED event is
raised (R8, R14, R34, R35, R64 to R66, R99). -/
def Obligations.SetdownStagesRecord : Prop :=
  ∀ (s : State) (l : Link) (hd : Hdr) (handle : Half) (f : Frame) (n : Nat) (v : State) (h : Handle) (r : Record)
    (k : Nat) (receiver : Option Nat) (ov : Option Byte) (timing : Timing) (c : Cell) (e : Robot),
    s.robotTakes (.setdown l hd handle) f n v → v.resolve handle = some (h, r) →
    r.custody = .booked n k receiver ov timing → v.cell k = some c → v.robot n = some e →
    let top := (c.stack.getLast?).bind v.recordOf
    (top.map (·.custody.state) = some .claimed → exec (.setdown l hd handle) s = .next (v.respond f ⟨.coversClaim, [[]]⟩)) ∧
    (top.map (·.custody.state) ≠ some .claimed →
      let seq := v.engine.stageSeq
      let mask := (ov <|> (r.route.bind v.legOf).map (·.mask)).getD c.accept
      let w : State := { v with engine := { v.engine with stageSeq := seq + 1 } }
      let x := match c.stack.getLast? with
        | some t => w.leave t
        | none => w
      let t := State.countEvent (State.enter
        { x with
          engine :=
            { w.engine with
              records := v.engine.records.put h.slot
                { r with
                  presentZone := c.zone
                  custody := .staged ⟨n, k, seq, mask, receiver⟩ none }
              cells := v.engine.cells.put k
                { c with
                  stack := c.stack ++ [h]
                  reserved := c.reserved - 1 }
              roster := v.engine.roster.put n { e with party := none } }
          timer := { v.timer with list := v.timer.list.filter fun d => d.handle ≠ h } } h mask r.priority seq)
        .staged c.zone 0
      let position := smallField ((c.stack ++ [h]).findIdx? fun b => b == h)
      (h ∉ c.stack → position = byteOf c.stack.length) ∧
      exec (.setdown l hd handle) s = .next (t.respond f ⟨.ok, [be16 h.wire ++ [position, mask] ++ be32 seq]⟩))

/-- An accepted CLAIM makes the record CLAIMED by the robot: its lapsed robot is cleared, it leaves every pickup queue, the
robot is party to it as claimant, and the claim is timed by the link's claim window, armed while that link is UP and held
whole while it is DOWN (R67, R68, R100, R135, R137). -/
def Obligations.ClaimGrantsTop : Prop :=
  ∀ (s : State) (l : Link) (hd : Hdr) (handle : Half) (f : Frame) (n : Nat) (v : State) (h : Handle) (r : Record)
    (spot : Spot) (lapsed : Option Nat) (e : Robot),
    s.robotTakes (.claim l hd handle) f n v → v.robot n = some e → e.suspended = false → e.party = none →
    v.resolve handle = some (h, r) → r.custody = .staged spot lapsed → v.cellTop spot.cell = some h →
    v.custodyCheck n spot = true →
    let x := v.leave h
    let window := (v.ports.robotLink l).claimWindow
    let deadline := v.timer.clock + BitVec.ofNat 32 (window * 250)
    exec (.claim l hd handle) s = .next (State.respond
      { x with
        engine :=
          { v.engine with
            records := v.engine.records.put h.slot
              { r with custody := .claimed spot n (if v.linkUp l then .armed deadline else .held (window * 250)) }
            roster := v.engine.roster.put n { e with party := some (h, .claimant) } }
        timer :=
          { v.timer with
            list := if v.linkUp l then insertDeadline ⟨deadline, h, .claim, false⟩ v.timer.list else v.timer.list } } f
      ⟨.ok, [be16 h.wire ++ be32 (wordOf r.bin) ++ be16 (halfOf spot.cell) ++
        [smallField (v.position spot.cell h), byteOf window, if v.linkUp l then 0 else 1]]⟩)

/-- CLAIM's checks in their order. A CUSTODY refusal raises a CLAIM_REFUSED event in the cell's zone and, where the cell asks
for it, posts a CUSTODY_REFUSED notice with the check mode; any other refusal changes nothing (R51, R67, R69, R109). -/
def Obligations.ClaimChecksInOrder : Prop :=
  ∀ (s : State) (l : Link) (hd : Hdr) (handle : Half) (f : Frame) (n : Nat) (v : State) (e : Robot),
    s.robotTakes (.claim l hd handle) f n v → v.robot n = some e →
    let out := fun (t : State) (r : Result) => exec (.claim l hd handle) s = .next (t.respond f ⟨r, [[]]⟩)
    if e.suspended then out v .suspended
    else if e.party.isSome then out v .robotBusy
    else
      (v.resolve handle = none → out v .staleHandle) ∧
      ∀ h r, v.resolve handle = some (h, r) →
        (r.custody.state ≠ .staged → out v .wrongState) ∧
        ∀ spot lapsed c, r.custody = .staged spot lapsed → v.cell spot.cell = some c →
          if c.stack.getLast? ≠ some h then out v .buried
          else if v.custodyCheck n spot = false then
            let t := v.countEvent .claimRefused c.zone 0
            out (if c.report then t.post .custody ⟨.custodyRefused, 0, some h, some r.bin, some n, some spot.cell,
              some c.zone, c.check.code⟩ else t) .custody
          else True

/-- SEEK's two checks, and its walk: with no member of the group's queue that passes both tests it is answered NONE and
changes nothing; else the first member that passes is granted with every effect of an accepted CLAIM (R70, R71, R110,
R112). -/
def Obligations.SeekGrantsFirstMember : Prop :=
  ∀ (s : State) (l : Link) (hd : Hdr) (f : Frame) (n : Nat) (v : State) (e : Robot),
    s.robotTakes (.seek l hd) f n v → v.robot n = some e →
    let passes := fun (m : PickupEntry) (r : Record) (spot : Spot) =>
      v.recordOf m.handle = some r ∧ (∃ lapsed, r.custody = .staged spot lapsed) ∧
        (∀ d, spot.receiver = some d → (v.robot d).isSome = true → d = n) ∧ v.custodyCheck n spot = true
    (e.suspended = true → exec (.seek l hd) s = .next (v.respond f ⟨.suspended, [[]]⟩)) ∧
    (e.suspended = false → e.party.isSome = true → exec (.seek l hd) s = .next (v.respond f ⟨.robotBusy, [[]]⟩)) ∧
    (e.suspended = false → e.party = none →
      ((∀ m ∈ v.queueOf e.group, ∀ r spot, ¬ passes m r spot) →
        exec (.seek l hd) s = .next (v.respond f ⟨.none, [[]]⟩)) ∧
      ∀ front m back r spot, v.queueOf e.group = front ++ m :: back →
        (∀ m' ∈ front, ∀ r' spot', ¬ passes m' r' spot') → passes m r spot →
        let h := m.handle
        let x := v.leave h
        let window := (v.ports.robotLink l).claimWindow
        let deadline := v.timer.clock + BitVec.ofNat 32 (window * 250)
        exec (.seek l hd) s = .next (State.respond
          { x with
            engine :=
              { v.engine with
                records := v.engine.records.put h.slot
                  { r with custody := .claimed spot n (if v.linkUp l then .armed deadline else .held (window * 250)) }
                roster := v.engine.roster.put n { e with party := some (h, .claimant) } }
            timer :=
              { v.timer with
                list := if v.linkUp l then insertDeadline ⟨deadline, h, .claim, false⟩ v.timer.list else v.timer.list } }
          f ⟨.ok, [be16 h.wire ++ be32 (wordOf r.bin) ++ be16 (halfOf spot.cell) ++
            [smallField (v.position spot.cell h), byteOf window, if v.linkUp l then 0 else 1]]⟩))

/-- An accepted TAKEUP makes the record CARRIED by the claimant, with one more hop and its leg index one more, at most 7;
priority, exposure, plan, hop limit and present zone stay. The robot's role becomes carrier and its miss count 0. The bin
leaves the stack, the bin then on top enters its queues, a LIFTED event is raised, and the close check runs (R37, R74, R75,
R102, R124). -/
def Obligations.TakeupLiftsTop : Prop :=
  ∀ (s : State) (l : Link) (hd : Hdr) (handle : Half) (f : Frame) (n : Nat) (v : State) (h : Handle) (r : Record)
    (spot : Spot) (timing : Timing) (e : Robot) (c : Cell),
    s.robotTakes (.takeup l hd handle) f n v → v.resolve handle = some (h, r) → r.custody = .claimed spot n timing →
    v.robot n = some e → v.cell spot.cell = some c →
    let rest := c.stack.filter fun b => b ≠ h
    let r1 : Record :=
      { r with
        hops := r.hops + 1
        route := r.route.map fun p => ⟨p.plan, min 7 (p.leg + 1)⟩
        custody := .carried n none }
    let w : State :=
      { v with
        engine :=
          { v.engine with
            records := v.engine.records.put h.slot r1
            cells := v.engine.cells.put spot.cell { c with stack := rest }
            roster := v.engine.roster.put n
              { e with
                party := some (h, .carrier)
                misses := 0 } }
        timer := { v.timer with list := v.timer.list.filter fun d => d.handle ≠ h } }
    let x := if c.stack.getLast? = some h then
        match rest.getLast?.bind fun b => (v.recordOf b).map fun rb => (b, rb) with
        | some (b, rb) => match rb.custody with
          | .staged under _ => w.enter b under.mask rb.priority under.seq
          | _ => w
        | none => w
      else w
    let t := (x.countEvent .lifted c.zone 0).closeCheck spot.cell
    exec (.takeup l hd handle) s = .next (t.respond f ⟨.ok, [be16 h.wire ++
      [byteOf (r.hops + 1), byteOf r.hopLimit, smallField (r1.route.map (·.leg)),
        if r.hops + 1 = r.hopLimit then 255 else smallField ((r1.route.bind v.legOf).map (·.group))] ++
      be16 (halfOf (if r.overdue then 0 else r.budget - r.exposure))]⟩)

/-- FINISH of a record CARRIED by the robot with an outcome other than DELIVERED and RESTORED is answered BAD_FIELD and
changes nothing. Else the record is retired, an overdue one posts OVERDUE_FINISHED with the outcome, and the reply tells the
record as it was (R76, R77). -/
def Obligations.FinishRetiresRecord : Prop :=
  ∀ (s : State) (l : Link) (hd : Hdr) (handle : Half) (outcome : Byte) (f : Frame) (n : Nat) (v : State) (h : Handle)
    (r : Record) (lapsed : Option Nat),
    s.robotTakes (.finish l hd handle outcome) f n v → v.resolve handle = some (h, r) → r.custody = .carried n lapsed →
    (1 < outcome.toNat → exec (.finish l hd handle outcome) s = .next (v.respond f ⟨.badField, [[]]⟩)) ∧
    (outcome.toNat ≤ 1 →
      let x := v.retire h r
      let t := if r.overdue then
          x.post .thermal ⟨.overdueFinished, 0, some h, some r.bin, some n, none, some r.presentZone, outcome⟩
        else x
      exec (.finish l hd handle outcome) s = .next (t.respond f ⟨.ok, [be16 h.wire ++ [outcome, byteOf r.hops] ++
        be16 (halfOf r.exposure) ++ [flagByte [r.warned, r.overdue, r.rescued]]]⟩))

/-- Retirement: of a CARRIED or BOOKED record its bin ID leaves the Bin Index, a booking's place on its cell is given back,
its entry leaves the deadline list and its entries the pickup queues, its party is party to nothing, its plan counts one
less, its slot is free with the next generation modulo 16 and joins the tail of the Free Slot Queue, and the close check runs
for the cell of a booking. Of a STAGED or CLAIMED record it does the same and takes it off its cell's stack, the bins above
moving down; when it was the top, the bin now on top, if STAGED, enters its queues (R3, R5, R23, R38, R102). -/
def Obligations.RetirementOfARecord : Prop :=
  (∀ (s : State) (h : Handle) (r : Record) (n : Nat) (e : Robot), s.robot n = some e → r.custody.party = some n →
    (r.custody.state = .carried ∨ r.custody.state = .booked) →
    let cells := match r.custody.cell.bind fun k => (s.cell k).map fun c => (k, c) with
      | some (k, c) => s.engine.cells.put k { c with reserved := c.reserved - 1 }
      | none => s.engine.cells
    let plans := match r.route.bind fun p => (s.plans.look p.plan).map fun q => (p.plan, q) with
      | some (i, q) => s.plans.put i { q with refs := q.refs - 1 }
      | none => s.plans
    let t : State :=
      { s with
        engine :=
          { s.engine with
            records := s.engine.records.del h.slot
            gens := s.engine.gens.putD 0 h.slot ((s.generation h.slot + 1) % 16)
            freeSlots := s.engine.freeSlots ++ [h.slot]
            binIndex := s.engine.binIndex.del r.bin
            cells := cells
            roster := s.engine.roster.put n { e with party := none } }
        pickup := (s.leave h).pickup
        timer := { s.timer with list := s.timer.list.filter fun d => d.handle ≠ h }
        plans := plans }
    s.retire h r = match r.custody.cell with
      | some k => t.closeCheck k
      | none => t) ∧
  ∀ (s : State) (h : Handle) (r : Record) (spot : Spot) (c : Cell), r.custody.spot = some spot → s.cell spot.cell = some c →
    let w : State :=
      { s with
        engine :=
          { s.engine with
            binIndex := s.engine.binIndex.del r.bin
            cells := s.engine.cells.put spot.cell { c with stack := c.stack.filter fun x => x ≠ h } } }
    let under := (c.stack.filter fun x => x ≠ h).getLast?.bind fun b => (s.recordOf b).map fun rb => (b, rb)
    let x := if c.stack.getLast? = some h then
        match under with
        | some (b, rb) => match rb.custody with
          | .staged u _ => w.enter b u.mask rb.priority u.seq
          | _ => w
        | none => w
      else w
    let plans := match r.route.bind fun p => (s.plans.look p.plan).map fun q => (p.plan, q) with
      | some (i, q) => s.plans.put i { q with refs := q.refs - 1 }
      | none => s.plans
    let roster := match r.custody.party.bind fun n => (s.robot n).map fun e => (n, e) with
      | some (n, e) => s.engine.roster.put n { e with party := none }
      | none => s.engine.roster
    s.retire h r = State.closeCheck
      { w with
        engine :=
          { w.engine with
            records := s.engine.records.del h.slot
            gens := s.engine.gens.putD 0 h.slot ((s.generation h.slot + 1) % 16)
            freeSlots := s.engine.freeSlots ++ [h.slot]
            roster := roster }
        pickup := (x.leave h).pickup
        timer := { s.timer with list := s.timer.list.filter fun d => d.handle ≠ h }
        plans := plans } spot.cell

/-- QUERY-BIN and QUERY-CELL change nothing beyond the link update: they are answered NONE, BAD_FIELD or CELL_UNKNOWN, or
with the record and the cell as they stand, bins listed top first; a bin ID of 0 names no record (R6, R78, R79). -/
def Obligations.QueriesChangeNothing : Prop :=
  ∀ (s : State) (l : Link) (hd : Hdr) (f : Frame) (n : Nat) (v : State),
    (∀ bin, s.robotTakes (.queryBin l hd bin) f n v →
      let out := fun (a : Answer) => exec (.queryBin l hd bin) s = .next (v.respond f a)
      (v.engine.binIndex.look bin.toNat = none → out ⟨.none, [[]]⟩) ∧ (bin = 0 → s.slotLaw → out ⟨.none, [[]]⟩) ∧
      ∀ slot r, v.engine.binIndex.look bin.toNat = some slot → v.engine.records.look slot = some r →
        let h : Handle := ⟨slot, v.generation slot⟩
        out ⟨.ok, [be16 h.wire ++ [r.custody.state.code] ++ cellField r.custody.cell ++
          [smallField (r.custody.spot.bind fun spot => v.position spot.cell h), byteOf r.priority] ++
          be16 (halfOf (if r.overdue then 0 else r.budget - r.exposure)) ++
          [flagByte [r.warned, r.overdue, r.exempt, r.rescued, r.custody.isHeld]] ++ robotField r.custody.receiver ++
          [byteOf r.hops, smallField (r.route.map (·.leg))]]⟩) ∧
    ∀ cell, s.robotTakes (.queryCell l hd cell) f n v →
      let out := fun (a : Answer) => exec (.queryCell l hd cell) s = .next (v.respond f a)
      (1023 < cell.toNat → out ⟨.badField, [[]]⟩) ∧
      (cell.toNat ≤ 1023 → v.cell cell.toNat = none → out ⟨.cellUnknown, [[]]⟩) ∧
      ∀ c, cell.toNat ≤ 1023 → v.cell cell.toNat = some c → (∀ b ∈ c.stack, (v.recordOf b).isSome = true) →
        out ⟨.ok, [[c.state.code, byteOf c.capacity, byteOf c.reserved, byteOf c.admissions, byteOf c.stack.length] ++
          (c.stack.reverse.filterMap fun b => (v.recordOf b).map fun r =>
            be16 b.wire ++ be32 (wordOf r.bin) ++ [r.custody.state.code, byteOf r.priority]).flatten]⟩

/-! ## Cells and the roster -/

/-- CELL-WRITE: its checks in their order, and the entry it writes; a cell already defined keeps its state, admit count,
stack and reserved count, a new one starts OPEN and empty. The reply carries the summary unless it is BAD_FIELD (R42 to R44).
-/
def Obligations.CellWriteWritesEntry : Prop :=
  ∀ (s : State) (hd : Hdr) (cell : Half) (b : CellBytes) (f : Frame) (u : State),
    s.hostTakes (.cellWrite hd cell b) f u → u.engine.cells.wf = true →
    let n := cell.toNat
    let out := fun (t : State) (r : Result) (body : List Byte) =>
      exec (.cellWrite hd cell b) s = .next (t.respond f ⟨r, [body]⟩)
    let taken := ∃ m c, m ≠ n ∧ u.cell m = some c ∧ c.column = b.column.toNat ∧ c.row = b.row.toNat
    let held := ∃ c, u.cell n = some c ∧ 0 < c.stack.length + c.reserved ∧
      ¬ (c.zone = b.zone.toNat ∧ c.column = b.column.toNat ∧ c.row = b.row.toNat ∧
        c.stack.length + c.reserved ≤ b.capacity.toNat)
    if 1023 < n ∨ 127 < b.column.toNat ∨ 127 < b.row.toNat ∨ 15 < b.zone.toNat ∨ b.capacity = 0 ∨ 4 < b.capacity.toNat ∨
        b.accept = 0 ∨ 3 < b.mode.toNat then out u .badField []
    else
      (taken → out u .duplicate (summaryBytes cell (u.cell n))) ∧
      (¬ taken → held → out u .cellBusy (summaryBytes cell (u.cell n))) ∧
      (¬ taken → ¬ held → ∀ mode : CheckMode, mode.code = b.mode →
        let old := u.cell n
        let c : Cell :=
          { column := b.column.toNat
            row := b.row.toNat
            zone := b.zone.toNat
            capacity := b.capacity.toNat
            accept := b.accept
            check := mode
            report := b.flags.getLsbD 0
            groups := b.groups
            state := (old.map (·.state)).getD .opened
            admissions := (old.map (·.admissions)).getD 0
            stack := (old.map (·.stack)).getD []
            reserved := (old.map (·.reserved)).getD 0 }
        out { u with engine := { u.engine with cells := u.engine.cells.put n c } } .ok (summaryBytes cell (some c)))

/-- CELL-DELETE, CELL-REOPEN and CELL-DRAIN: their checks in their order. A deleted cell's entry is undefined; a reopened one is
OPEN with admit count 0; a drained one is DRAINING with the request's admit count, or CLOSED at once by the close check when it
is empty and that count is 0. The rest is kept, and a refusal changes nothing (R41, R42, R45 to R47). -/
def Obligations.CellDeleteReopenDrain : Prop :=
  (∀ (s : State) (hd : Hdr) (cell : Half) (f : Frame) (u : State),
    let n := cell.toNat
    (s.hostTakes (.cellDelete hd cell) f u →
      let out := fun (t : State) (r : Result) (body : List Byte) =>
        exec (.cellDelete hd cell) s = .next (t.respond f ⟨r, [body]⟩)
      if 1023 < n then out u .badField []
      else
        (u.cell n = none → out u .cellUnknown (summaryBytes cell none)) ∧
        ∀ c, u.cell n = some c →
          if 0 < c.stack.length + c.reserved then out u .cellBusy (summaryBytes cell (some c))
          else out { u with engine := { u.engine with cells := u.engine.cells.del n } } .ok (summaryBytes cell none)) ∧
    (s.hostTakes (.cellReopen hd cell) f u →
      let out := fun (t : State) (r : Result) (body : List Byte) =>
        exec (.cellReopen hd cell) s = .next (t.respond f ⟨r, [body]⟩)
      if 1023 < n then out u .badField []
      else
        (u.cell n = none → out u .cellUnknown (summaryBytes cell none)) ∧
        ∀ c, u.cell n = some c →
          if c.state = .opened then out u .wrongState (summaryBytes cell (some c))
          else
            let c1 : Cell :=
              { c with
                state := .opened
                admissions := 0 }
            out { u with engine := { u.engine with cells := u.engine.cells.put n c1 } } .ok (summaryBytes cell (some c1)))) ∧
  ∀ (s : State) (hd : Hdr) (cell : Half) (allowed : Byte) (f : Frame) (u : State),
    s.hostTakes (.cellDrain hd cell allowed) f u →
    let n := cell.toNat
    let out := fun (t : State) (r : Result) (body : List Byte) =>
      exec (.cellDrain hd cell allowed) s = .next (t.respond f ⟨r, [body]⟩)
    if 1023 < n ∨ 15 < allowed.toNat then out u .badField []
    else
      (u.cell n = none → out u .cellUnknown (summaryBytes cell none)) ∧
      ∀ c, u.cell n = some c →
        if c.state = .closed then out u .wrongState (summaryBytes cell (some c))
        else
          let c1 : Cell :=
            { c with
              state := if allowed = 0 ∧ c.stack = [] ∧ c.reserved = 0 then .closed else .draining
              admissions := allowed.toNat }
          let t : State := { u with engine := { u.engine with cells := u.engine.cells.put n c1 } }
          out (if c1.state = .closed then t.countEvent .closed c.zone 0 else t) .ok (summaryBytes cell (some c1))

/-- ROBOT-ENROL and ROBOT-WITHDRAW: their checks in their order. A robot not enrolled becomes ACTIVE in the group with no
last link, no party and no misses, an enrolled one changes its group alone; a withdrawn one has no entry. The reply carries
the entry as it then stands (R86, R87). ROBOT-SUSPEND and ROBOT-RESUME: their checks in their order; the one makes the robot
SUSPENDED, the other ACTIVE with miss count 0, the rest of the entry kept. MISS-LIMIT replaces the miss limit of the roster
and no entry. ROBOT-READ changes nothing and reports the entry, with the state and hold of the record its party names; for a
robot with no party those two bytes are free (R88 to R90, R93, R203; log 8). -/
def Obligations.RosterRequests : Prop :=
  (∀ (s : State) (hd : Hdr) (robot : Half) (f : Frame) (u : State),
    let n := robot.toNat
    let roster := fun (x : Table Robot) => ({ u with engine := { u.engine with roster := x } } : State)
    (∀ group : Byte, s.hostTakes (.robotEnrol hd robot group) f u →
      let out := fun (t : State) (r : Result) (body : List Byte) =>
        exec (.robotEnrol hd robot group) s = .next (t.respond f ⟨r, [body]⟩)
      if n = 0 ∨ 1023 < n ∨ 7 < group.toNat then out u .badField []
      else
        let t := roster (u.engine.roster.put n (match u.robot n with
          | none => ⟨false, group.toNat, none, none, 0⟩
          | some e => { e with group := group.toNat }))
        out t .ok (rosterBlock t n)) ∧
    (s.hostTakes (.robotWithdraw hd robot) f u →
      let out := fun (t : State) (r : Result) (body : List Byte) =>
        exec (.robotWithdraw hd robot) s = .next (t.respond f ⟨r, [body]⟩)
      if n = 0 ∨ 1023 < n then out u .badField []
      else if (u.robot n).isNone then out u .unknownRobot (rosterBlock u n)
      else if ((u.robot n).bind (·.party)).isSome then out u .inCustody (rosterBlock u n)
      else
        let t := roster (u.engine.roster.del n)
        t.robot n = none ∧ out t .ok (rosterBlock t n))) ∧
  (∀ (s : State) (hd : Hdr) (f : Frame) (u : State),
    (∀ (robot : Half) (resume : Bool),
      let n := robot.toNat
      let c := if resume then Instr.robotResume hd robot else .robotSuspend hd robot
      let out := fun (t : State) (r : Result) (body : List Byte) => exec c s = .next (t.respond f ⟨r, [body]⟩)
      s.hostTakes c f u →
      if n = 0 ∨ 1023 < n then out u .badField []
      else
        (u.robot n = none → out u .unknownRobot (rosterBlock u n)) ∧
        ∀ e, u.robot n = some e →
          let e1 : Robot :=
            { e with
              suspended := !resume
              misses := if resume then 0 else e.misses }
          let t : State := { u with engine := { u.engine with roster := u.engine.roster.put n e1 } }
          out t .ok (rosterBlock t n)) ∧
    ∀ limit : Byte, s.hostTakes (.missLimit hd limit) f u →
      let out := fun (t : State) (r : Result) (body : List Byte) =>
        exec (.missLimit hd limit) s = .next (t.respond f ⟨r, [body]⟩)
      if 7 < limit.toNat then out u .badField []
      else out { u with engine := { u.engine with missLimit := limit.toNat } } .ok [byteOf u.engine.missLimit, limit]) ∧
  ∀ (s : State) (hd : Hdr) (robot : Half) (f : Frame) (u : State), s.hostTakes (.robotRead hd robot) f u →
    let n := robot.toNat
    let out := fun (r : Result) (body : List Byte) => exec (.robotRead hd robot) s = .next (u.respond f ⟨r, [body]⟩)
    if n = 0 ∨ 1023 < n then out .badField []
    else
      (u.robot n = none → ∃ x y, out .ok (be16 robot ++ [0, 0, 255, 255, 255, 255, x, y, 0, byteOf u.engine.missLimit])) ∧
      ∀ e, u.robot n = some e →
        (e.party = none → ∃ x y, out .ok (entryBytes robot e [x, y] u.engine.missLimit)) ∧
        ∀ h role r, e.party = some (h, role) → u.recordOf h = some r →
          out .ok (entryBytes robot e [r.custody.state.code, if r.custody.isHeld then 1 else 0] u.engine.missLimit)

/-! ## Plans, zones, classes, rules, links -/

/-- PLAN-WRITE, PLAN-CLEAR and PLAN-READ: their checks in their order; a write replaces the whole plan, a clear makes it
undefined, a read changes nothing, and each reply carries the plan as it then stands (R117 to R121). -/
def Obligations.PlanRequests : Prop :=
  ∀ (s : State) (hd : Hdr) (plan : Byte) (f : Frame) (u : State),
    let n := plan.toNat
    let refs : Nat := ((u.plans.look n).map (·.refs)).getD 0
    (∀ count legs, s.hostTakes (.planWrite hd plan count legs) f u →
      let out := fun (t : State) (r : Result) (body : List Byte) =>
        exec (.planWrite hd plan count legs) s = .next (t.respond f ⟨r, [body]⟩)
      let good := n ≤ 254 ∧ 1 ≤ count.toNat ∧ count.toNat ≤ 8 ∧ legs.length = count.toNat ∧
        ∀ p ∈ legs, p.1.toNat ≤ 31 ∧ p.2 ≠ 0
      (¬ good → out u .badField []) ∧
      (good → 0 < refs → out u .planInUse (planBytes plan (u.plans.look n))) ∧
      (good → refs = 0 →
        let p : Plan := ⟨legs.map fun l => ⟨l.1.toNat, l.2⟩, 0⟩
        out { u with plans := u.plans.put n p } .ok (planBytes plan (some p)))) ∧
    (s.hostTakes (.planClear hd plan) f u →
      let out := fun (t : State) (r : Result) (body : List Byte) =>
        exec (.planClear hd plan) s = .next (t.respond f ⟨r, [body]⟩)
      if plan = 255 then out u .badField []
      else if (u.plans.look n).isNone then out u .badPlan (planBytes plan none)
      else if 0 < refs then out u .planInUse (planBytes plan (u.plans.look n))
      else out { u with plans := u.plans.del n } .ok (planBytes plan none)) ∧
    (s.hostTakes (.planRead hd plan) f u →
      exec (.planRead hd plan) s = .next (u.respond f
        (if plan = 255 then ⟨.badField, [[]]⟩ else ⟨.ok, [planBytes plan (u.plans.look n)]⟩)))

/-- ZONE-SENSE, ZONE-SET, ZONE-MODE and ZONE-READ: their checks in their order, the temperature clamped to -120 to 120, the
counts and flags each writes, ZONE_FRESH when a reading ends staleness, and the zone entry in each reply (R154 to R157). -/
def Obligations.ZoneRequests : Prop :=
  ∀ (s : State) (hd : Hdr) (zone : Byte) (f : Frame) (u : State),
    let n := zone.toNat
    let z := u.zone n
    let body := zoneBytes zone u.dwell.staleMargin
    let wrote := fun (z1 : Zone) => ({ u with dwell := { u.dwell with zones := u.dwell.zones.putD .reset n z1 } } : State)
    let clamp := fun (x : Half) => max (-120) (min 120 x.toInt)
    (∀ reading, s.hostTakes (.zoneSense hd zone reading) f u →
      let out := fun (t : State) (r : Result) (b : List Byte) =>
        exec (.zoneSense hd zone reading) s = .next (t.respond f ⟨r, [b]⟩)
      let z1 : Zone :=
        { z with
          temperature := clamp reading
          passes := 0
          stale := false }
      if 15 < n then out u .badField []
      else if z.sensor = false then out u .mode (body z)
      else out (if z.stale then (wrote z1).post .thermal
          ⟨.zoneFresh, 0, none, none, none, none, some n, BitVec.ofInt 8 (clamp reading)⟩ else wrote z1) .ok (body z1)) ∧
    (∀ temperature, s.hostTakes (.zoneSet hd zone temperature) f u →
      let out := fun (t : State) (r : Result) (b : List Byte) =>
        exec (.zoneSet hd zone temperature) s = .next (t.respond f ⟨r, [b]⟩)
      let z1 : Zone := { z with temperature := clamp temperature }
      if 15 < n then out u .badField []
      else if z.sensor = true then out u .mode (body z)
      else out (wrote z1) .ok (body z1)) ∧
    (∀ mode, s.hostTakes (.zoneMode hd zone mode) f u →
      let out := fun (t : State) (r : Result) (b : List Byte) =>
        exec (.zoneMode hd zone mode) s = .next (t.respond f ⟨r, [b]⟩)
      let z1 : Zone :=
        if z.sensor = true ∧ mode = 1 then
          { z with
            sensor := false
            stale := false }
        else if z.sensor = false ∧ mode = 0 then
          { z with
            sensor := true
            passes := 0 }
        else z
      if 15 < n ∨ 1 < mode.toNat then out u .badField [] else out (wrote z1) .ok (body z1)) ∧
    (s.hostTakes (.zoneRead hd zone) f u →
      exec (.zoneRead hd zone) s = .next (u.respond f (if 15 < n then ⟨.badField, [[]]⟩ else ⟨.ok, [body z]⟩)))

/-- CLASS-WRITE replaces the six parameters of a class, CLASS-READ reports them, DWELL-SET replaces period, stale limit and
stale margin and in RUN restarts the period timer; each is checked for range and none is clamped (R160, R162, R163). -/
def Obligations.ClassAndDwellSettings : Prop :=
  ∀ (s : State) (hd : Hdr) (f : Frame) (u : State),
    (∀ (cls : Byte) (b : ClassBytes), s.hostTakes (.classWrite hd cls b) f u →
      let out := fun (t : State) (r : Result) (body : List Byte) =>
        exec (.classWrite hd cls b) s = .next (t.respond f ⟨r, [body]⟩)
      if 2 < cls.toNat ∨ b.threshold.toInt < -120 ∨ 120 < b.threshold.toInt ∨ 15 < b.base.toNat ∨ b.budget = 0 ∨
          b.hopLimit = 0 ∨ 15 < b.hopLimit.toNat then out u .badField []
      else
        let p : ClassParams :=
          { threshold := b.threshold.toInt
            coefficient := b.coefficient.toNat
            base := b.base.toNat
            budget := b.budget.toNat
            hopLimit := b.hopLimit.toNat
            rescue := if b.rescue = 255 then none else some b.rescue.toNat }
        out { u with
              dwell :=
                { u.dwell with
                  ambient := if cls = 0 then p else u.dwell.ambient
                  chilled := if cls = 1 then p else u.dwell.chilled
                  frozen := if cls = 2 then p else u.dwell.frozen } } .ok
          ([cls, b.threshold, b.coefficient, b.base] ++ be16 b.budget ++ [b.hopLimit, b.rescue])) ∧
    (∀ cls : Byte, s.hostTakes (.classRead hd cls) f u →
      let out := fun (a : Answer) => exec (.classRead hd cls) s = .next (u.respond f a)
      (2 < cls.toNat → out ⟨.badField, [[]]⟩) ∧
      ∀ tc : ThermalClass, tc.code = cls →
        let p := u.dwell.params tc
        out ⟨.ok, [[cls, BitVec.ofInt 8 p.threshold, byteOf p.coefficient, byteOf p.base] ++ be16 (halfOf p.budget) ++
          [byteOf p.hopLimit, smallField p.rescue]]⟩) ∧
    ∀ period limit margin : Byte, s.hostTakes (.dwellSet hd period limit margin) f u →
      let out := fun (t : State) (r : Result) (body : List Byte) =>
        exec (.dwellSet hd period limit margin) s = .next (t.respond f ⟨r, [body]⟩)
      if period = 0 ∨ 60 < period.toNat ∨ limit = 0 ∨ 15 < limit.toNat ∨ 20 < margin.toNat then out u .badField []
      else out { u with
                 dwell :=
                   { u.dwell with
                     period := period.toNat
                     staleLimit := limit.toNat
                     staleMargin := margin.toNat
                     timer := if u.engine.mode = .run then some (period.toNat * 1000) else u.dwell.timer } } .ok
        [period, limit, margin]

/-- RULE-WRITE replaces every field of a rule but the hit flag, once its fields fit their widths, and RULE-READ changes
nothing; each reply carries the rule as it then stands (R176, R185, R186). That the valid byte is read in bit 0 and its other
bits ignored is inferred (log 12). -/
def Obligations.RuleWriteAndRead : Prop :=
  ∀ (s : State) (hd : Hdr) (f : Frame) (u : State),
    (∀ b : RuleBytes, s.hostTakes (.ruleWrite hd b) f u →
      let n := b.index.toNat
      let out := fun (t : State) (r : Result) (body : List Byte) =>
        exec (.ruleWrite hd b) s = .next (t.respond f ⟨r, [body]⟩)
      let fit := fun (w : Nat) (m : MatchField) => m.value.toNat < 2 ^ w ∧ m.care.toNat < 2 ^ w
      let good := n ≤ 63 ∧ fit 1 b.fields.point ∧ fit 2 b.fields.cls ∧ fit 2 b.fields.priority ∧ fit 4 b.fields.originZone ∧
        fit 4 b.fields.targetZone ∧ fit 1 b.fields.planned ∧ fit 1 b.fields.overdue ∧ fit 4 b.fields.hops ∧
        fit 8 b.fields.wave ∧ b.scale.toNat ≤ 3 ∧ b.floor.toNat ≤ 3 ∧
        (b.actions.getLsbD 1 = true → b.overrideMask ≠ 0)
      (¬ good → out u .badField []) ∧
      (good → ∀ scale : Scale, scale.code = b.scale →
        let r : Rule :=
          { valid := b.valid.getLsbD 0
            fields := b.fields
            deny := b.actions.getLsbD 0
            overrides := b.actions.getLsbD 1
            overrideMask := b.overrideMask
            notifyAlways := b.actions.getLsbD 2
            notifyOnce := b.actions.getLsbD 3
            exempt := b.actions.getLsbD 4
            scale := scale
            floor := b.floor.toNat
            hit := (u.rule n).hit }
        out { u with rules := u.rules.putD .reset n r } .ok (ruleBytes b.index r))) ∧
    ∀ index : Byte, s.hostTakes (.ruleRead hd index) f u →
      exec (.ruleRead hd index) s = .next (u.respond f
        (if 63 < index.toNat then ⟨.badField, [[]]⟩ else ⟨.ok, [ruleBytes index (u.rule index.toNat)]⟩))

/-- RULE-HITS answers the 64 hit flags as they stand and clears those of the request's set, and nothing else (R187). -/
def Obligations.RuleHitsReadsThenClears : Prop :=
  ∀ (s : State) (hd : Hdr) (clear : Quad) (f : Frame) (u : State), s.hostTakes (.ruleHits hd clear) f u →
    ∃ (t : State) (flags : Quad),
      exec (.ruleHits hd clear) s = .next (t.respond f ⟨.ok, [be64 flags]⟩) ∧
      (∀ i, i < 64 → flags.getLsbD i = (u.rule i).hit) ∧
      t = { u with rules := t.rules } ∧
      ∀ i, t.rule i = if i < 64 ∧ clear.getLsbD i = true then { u.rule i with hit := false } else u.rule i

/-- LINK-SET writes the three settings, a 0 taken as 1 and a silence limit above 40 as 40, into the link or links selected,
and nothing else; LINK-READ changes nothing. Each reply carries the link selected, or link B (R198, R199). That the block
names B for BOTH is inferred (log 11). -/
def Obligations.LinkSettings : Prop :=
  ∀ (s : State) (hd : Hdr) (sel : Byte) (f : Frame) (u : State),
    let block := fun (t : State) =>
      let k := if sel = 0 then t.ports.linkA else t.ports.linkB
      [if sel = 0 then 0 else 1, if k.up then 1 else 0, if k.mirror then 1 else 0, byteOf k.bookWindow, byteOf k.claimWindow,
        byteOf k.silenceLimit]
    (∀ booking claim silence : Byte, s.hostTakes (.linkSet hd sel booking claim silence) f u →
      let set := fun (k : RobotLink) =>
        { k with
          bookWindow := if booking = 0 then 1 else booking.toNat
          claimWindow := if claim = 0 then 1 else claim.toNat
          silenceLimit := if silence = 0 then 1 else if 40 < silence.toNat then 40 else silence.toNat }
      let t : State :=
        { u with
          ports :=
            { u.ports with
              linkA := if sel = 0 ∨ sel = 2 then set u.ports.linkA else u.ports.linkA
              linkB := if sel = 1 ∨ sel = 2 then set u.ports.linkB else u.ports.linkB } }
      exec (.linkSet hd sel booking claim silence) s = .next
        (if 2 < sel.toNat then u.respond f ⟨.badField, [[]]⟩ else t.respond f ⟨.ok, [block t]⟩)) ∧
    (s.hostTakes (.linkRead hd sel) f u →
      exec (.linkRead hd sel) s = .next
        (u.respond f (if 2 < sel.toNat then ⟨.badField, [[]]⟩ else ⟨.ok, [block u]⟩)))

/-! ## Accrual -/

/-- A visit of the pass in flight. A free slot is passed over. A live record accrues by the excess of its present zone and the
parameters of its class; ACCRUAL is counted when the amount is above 0, the warned and overdue flags are set at their
thresholds with their notices, and the overdue event is raised. The cursor moves on; after slot 2047 the pass ends, the count
advances and a pending pass starts (R164, R165, R168 to R171). With no pass in flight nothing happens (log 21). -/
def Obligations.AccrualVisitOfASlot : Prop :=
  ∀ s : State, (s.dwell.cursor = none → exec .accrualVisit s = .next s) ∧
    ∀ slot, s.dwell.cursor = some slot → ∃ v : State,
      (s.engine.records.look slot = none → v = s) ∧
      (∀ r, s.engine.records.look slot = some r →
        let p := s.dwell.params r.cls
        let z := s.zone r.presentZone
        let excess : Int := min 120 (if z.stale then z.temperature + s.dwell.staleMargin else z.temperature) - p.threshold
        let a : Nat := if r.exempt = true ∨ excess ≤ 0 then 0
          else min 4095 (p.base + p.coefficient * excess.toNat ^ 2 / 64)
        let x := min 65535 (r.exposure + a)
        let warns := r.warned = false ∧ r.budget * 3 / 4 ≤ x
        let passes := r.overdue = false ∧ r.budget ≤ x
        let h := s.handleOf slot
        let notice := fun (k : NoticeKind) =>
          (⟨k, 0, some h, some r.bin, r.custody.party, r.custody.cell, some r.presentZone, r.cls.code⟩ : Notice)
        let s1 := if 0 < a then s.countEvent .accrual r.presentZone a else s
        let s2 := if warns then s1.post .thermal (notice .dwellWarn) else s1
        let s3 := if passes then s2.post .thermal (notice .dwellOverdue) else s2
        v = { s3 with
              engine :=
                { s.engine with
                  records := s.engine.records.put slot
                    { r with
                      exposure := x
                      warned := r.warned || decide (r.budget * 3 / 4 ≤ x)
                      overdue := r.overdue || decide (r.budget ≤ x) }
                  overdues := if passes then s.engine.overdues ++ [h] else s.engine.overdues } }) ∧
      (slot < 2047 → exec .accrualVisit s = .next { v with dwell := { s.dwell with cursor := some (slot + 1) } }) ∧
      (slot = 2047 →
        let e : State :=
          { v with
            dwell :=
              { s.dwell with
                cursor := none
                passes := s.dwell.passes + 1
                passPending := false } }
        if s.dwell.passPending = true then ∃ t, exec .accrualVisit s = .next t ∧ e.passStarted t
        else exec .accrualVisit s = .next e)

/-- When the period timer has run out it restarts for the next period, and a pass starts, or becomes pending behind the one in
flight, or merges into the one pending (R158, R163, R164). In any other case the command changes nothing (the model's choice,
log 4 and log 21). -/
def Obligations.AccrualPeriodExpiryStartsPass : Prop :=
  ∀ s : State,
    let v : State := { s with dwell := { s.dwell with timer := some (s.dwell.period * 1000) } }
    (s.dwell.timer ≠ some 0 → exec .accrualPeriodExpiry s = .next s) ∧
    (s.dwell.timer = some 0 → s.dwell.cursor ≠ none →
      exec .accrualPeriodExpiry s = .next { v with dwell := { v.dwell with passPending := true } }) ∧
    (s.dwell.timer = some 0 → s.dwell.cursor = none → ∃ t, exec .accrualPeriodExpiry s = .next t ∧ v.passStarted t)

/-! ## Deadlines, lapses and the overdue event -/

/-- The Deadline Timer raises the expiry of the first entry reached whose expiry has not been raised, and the entry stays;
with no such entry nothing happens. An entry joins the list behind every entry whose instant is not later (R134, R136,
R139; the idle case is log 21). -/
def Obligations.DeadlineListAndExpiry : Prop :=
  (∀ (s : State) (front back : List Deadline) (d : Deadline),
    let due := fun (e : Deadline) => 0 ≤ (s.timer.clock - e.instant).toInt ∧ e.raised = false
    ((∀ e ∈ s.timer.list, ¬ due e) → exec .deadlineReached s = .next s) ∧
    (s.timer.list = front ++ d :: back → (∀ e ∈ front, ¬ due e) → due d →
      exec .deadlineReached s = .next
        { s with
          timer := { s.timer with list := front ++ { d with raised := true } :: back }
          engine := { s.engine with expiries := s.engine.expiries ++ [⟨d.handle, d.kind, d.instant⟩] } })) ∧
  ∀ (d : Deadline) (l : List Deadline), ∃ front back, l = front ++ back ∧ insertDeadline d l = front ++ d :: back ∧
    (∀ e ∈ front, 0 ≤ (d.instant - e.instant).toInt) ∧ ∀ e, back.head? = some e → (d.instant - e.instant).toInt < 0

/-- An expiry taken of a record still BOOKED with that instant makes the booking lapse: CARRIED by the same carrier, who is
now the lapsed robot; place given back, entry removed, close check, BOOKING_LAPSED notice and counter event. An expiry that
meets neither a booking nor a claim of its instant is discarded, and none is taken in FLUSHING (R140 to R142, R151). That the
command names an event by its index among those raised and not yet taken, and changes nothing at an index with none, is the
model's choice (log 3 and log 21). -/
def Obligations.ExpiryLapsesBooking : Prop :=
  ∀ (s : State) (i : Nat),
    (s.engine.mode = .flushing ∨ s.engine.expiries[i]? = none → exec (.expiryTaken i) s = .next s) ∧
    ∀ x, s.engine.mode ≠ .flushing → s.engine.expiries[i]? = some x →
      let v : State := { s with engine := { s.engine with expiries := s.engine.expiries.eraseIdx i } }
      let h := x.handle
      let meets := fun (c : Custody) =>
        (∃ n k receiver ov, c = .booked n k receiver ov (.armed x.instant) ∧ x.kind = .booking) ∨
        ∃ spot n, c = .claimed spot n (.armed x.instant) ∧ x.kind = .claim
      ((∀ r, v.recordOf h = some r → ¬ meets r.custody) → exec (.expiryTaken i) s = .next v) ∧
      ∀ r n k receiver ov c, v.recordOf h = some r → x.kind = .booking →
        r.custody = .booked n k receiver ov (.armed x.instant) → v.cell k = some c →
        let w := State.closeCheck
          { v with
            engine :=
              { v.engine with
                records := v.engine.records.put h.slot { r with custody := .carried n (some n) }
                cells := v.engine.cells.put k { c with reserved := c.reserved - 1 } }
            timer := { v.timer with list := v.timer.list.filter fun d => d.handle ≠ h } } k
        exec (.expiryTaken i) s = .next ((w.post .timing
          ⟨.bookingLapsed, 0, some h, some r.bin, some n, some k, some r.presentZone,
            if c.state = .draining ∧ c.admissions = 0 ∧ c.stack = [] ∧ c.reserved ≤ 1 then 2 else c.state.code⟩).countEvent
          .bookingLapsed r.presentZone 0)

/-- An expiry taken of a record still CLAIMED with that instant makes the claim lapse: STAGED in place, the former claimant
the lapsed robot and party to nothing, its misses one more up to 7; the record enters its queues, CLAIM_LAPSED is posted and
counted, and an ACTIVE robot whose misses reach a miss limit above 0 is SUSPENDED with ROBOT_SUSPENDED (R91, R92, R140, R143,
R144). The index is the model's choice (log 3). -/
def Obligations.ExpiryLapsesClaim : Prop :=
  ∀ (s : State) (i : Nat) (x : Expiry), s.engine.mode ≠ .flushing → s.engine.expiries[i]? = some x →
    let v : State := { s with engine := { s.engine with expiries := s.engine.expiries.eraseIdx i } }
    let h := x.handle
    ∀ r spot n c e, v.recordOf h = some r → x.kind = .claim → r.custody = .claimed spot n (.armed x.instant) →
      v.cell spot.cell = some c → v.robot n = some e →
      let misses := min 7 (e.misses + 1)
      let suspends := v.engine.missLimit ≠ 0 ∧ v.engine.missLimit ≤ misses ∧ e.suspended = false
      let notice := fun (k : NoticeKind) =>
        (⟨k, 0, some h, some r.bin, some n, some spot.cell, some c.zone, byteOf misses⟩ : Notice)
      let w := State.enter
        { v with
          engine :=
            { v.engine with
              records := v.engine.records.put h.slot { r with custody := .staged spot (some n) }
              roster := v.engine.roster.put n
                { e with
                  party := none
                  misses := misses
                  suspended := e.suspended || decide suspends } }
          timer := { v.timer with list := v.timer.list.filter fun d => d.handle ≠ h } } h spot.mask r.priority spot.seq
      let t := (w.post .timing (notice .claimLapsed)).countEvent .claimLapsed r.presentZone 0
      exec (.expiryTaken i) s = .next (if suspends then t.post .custody (notice .robotSuspended) else t)

/-- An overdue event is discarded for a handle that no longer names a record, and waits in FLUSHING. Else priority 3 is set,
a STAGED top is moved in its queues, and OVERDUE is counted. A class with no rescue plan makes no switch; one that is
undefined posts RESCUE_UNAVAILABLE. A record already rescued is not switched again, which is inferred (R103, R127, R132,
R172; log 16). That the command names an event by its index among those raised and not yet taken, and changes nothing at an
index with none, is the model's choice (log 3 and log 21). -/
def Obligations.OverdueEventRaisesPriority : Prop :=
  ∀ (s : State) (i : Nat),
    (s.engine.mode = .flushing ∨ s.engine.overdues[i]? = none → exec (.overdueEvent i) s = .next s) ∧
    ∀ h, s.engine.mode ≠ .flushing → s.engine.overdues[i]? = some h →
      let v : State := { s with engine := { s.engine with overdues := s.engine.overdues.eraseIdx i } }
      (v.recordOf h = none → exec (.overdueEvent i) s = .next v) ∧
      ∀ r, v.recordOf h = some r →
        let w : State :=
          { v with engine := { v.engine with records := v.engine.records.put h.slot { r with priority := 3 } } }
        let x := if v.stagedTop h r then w.priorityChange h 3 else w
        let plan := (v.dwell.params r.cls).rescue
        (plan = none ∨ r.rescued = true →
          exec (.overdueEvent i) s = .next (x.countEvent .overdue r.presentZone 0)) ∧
        ∀ k, plan = some k → r.rescued = false → v.plans.look k = none →
          exec (.overdueEvent i) s = .next ((x.post .thermal
            ⟨.rescueUnavailable, 0, some h, some r.bin, r.custody.party, r.custody.cell, some r.presentZone,
              byteOf k⟩).countEvent .overdue r.presentZone 0)

/-- The rescue switch of an overdue record whose class names a defined plan: plan, leg 0, hop limit the smaller of 15 and
hops plus legs, rescued flag, priority 3; a booking loses its override, a STAGED or CLAIMED record takes leg 0's mask, and a
STAGED top is handed both queue changes; the plans' counts move, RESCUE_APPLIED is posted, OVERDUE counted (R118, R127 to
R131). The index is the model's choice (log 3). -/
def Obligations.OverdueEventSwitchesPlan : Prop :=
  ∀ (s : State) (i : Nat) (h : Handle), s.engine.mode ≠ .flushing → s.engine.overdues[i]? = some h →
    let v : State := { s with engine := { s.engine with overdues := s.engine.overdues.eraseIdx i } }
    ∀ r k p, v.recordOf h = some r → (v.dwell.params r.cls).rescue = some k → r.rescued = false → v.plans.look k = some p →
      let mask := (p.legs.head?.map (·.mask)).getD 0
      let r1 : Record :=
        { r with
          priority := 3
          route := some ⟨k, 0⟩
          hopLimit := min 15 (r.hops + p.legs.length)
          rescued := true
          custody := match r.custody with
            | .carried n lapsed => .carried n lapsed
            | .booked n cell receiver _ timing => .booked n cell receiver none timing
            | .staged spot lapsed => .staged { spot with mask := mask } lapsed
            | .claimed spot n timing => .claimed { spot with mask := mask } n timing }
      let x := match r.custody.spot with
        | some spot =>
          if v.stagedTop h r then (v.priorityChange h 3).maskChange h spot.mask mask 3 spot.seq else v
        | none => v
      ∃ t : State, exec (.overdueEvent i) s = .next t ∧
        t = { v with
              engine := { v.engine with records := v.engine.records.put h.slot r1 }
              pickup := x.pickup
              plans := t.plans
              notices := ((v.post .thermal ⟨.rescueApplied, 0, some h, some r.bin, r.custody.party, r.custody.cell,
                some r.presentZone, byteOf k⟩).countEvent .overdue r.presentZone 0).notices } ∧
        ∀ m, t.plans.look m = (v.plans.look m).map fun q =>
          if r.route.map (·.plan) = some m ∧ m ≠ k then { q with refs := q.refs - 1 }
          else if m = k ∧ r.route.map (·.plan) ≠ some k then { q with refs := q.refs + 1 }
          else if m = k then { q with refs := q.refs - 1 + 1 }
          else q

/-! ## Supervision -/

/-- MODE's checks in their order. RUN starts the period timer. SETUP, taken on an empty table, stops it, abandons the pass in
flight and drops the pending one (R163, R167, R204). That the refusals carry the mode is inferred (log 13). -/
def Obligations.ModeRequestSetsMode : Prop :=
  ∀ (s : State) (hd : Hdr) (m : Byte) (f : Frame) (u : State), s.hostTakes (.mode hd m) f u →
    let out := fun (t : State) (r : Result) (body : List Byte) => exec (.mode hd m) s = .next (t.respond f ⟨r, [body]⟩)
    if 1 < m.toNat then out u .badField []
    else if (m = 1 ∧ u.engine.mode = .run) ∨ (m = 0 ∧ u.engine.mode = .setup) then out u .wrongState [m]
    else if m = 1 then
      out { u with
            engine := { u.engine with mode := .run }
            dwell := { u.dwell with timer := some (u.dwell.period * 1000) } } .ok [1]
    else if u.liveCount ≠ 0 then out u .notEmpty [1]
    else
      out { u with
            engine := { u.engine with mode := .setup }
            dwell :=
              { u.dwell with
                timer := none
                cursor := none
                passPending := false } } .ok [0]

/-- STATUS is served in every mode. LOOKUP, by bin ID or by handle, is answered NONE or with the record block. SCAN is answered
with the first live records at or above the start slot, at most the count, in ascending slot order, a block each behind the
number returned and the continue slot. None changes anything (R200, R203, R205 to R208). -/
def Obligations.StatusLookupScan : Prop :=
  (∀ (s : State) (hd : Hdr) (f : Frame) (u : State),
    (s.ready (.status hd) = some (f, u) →
      exec (.status hd) s = .next (u.respond f ⟨.ok, [[u.engine.mode.code] ++ be16 (halfOf u.engine.records.length) ++
        be16 (halfOf (2048 - u.engine.records.length)) ++ be32 u.timer.clock ++
        [flagByte [u.ports.linkA.up, u.ports.linkA.mirror], flagByte [u.ports.linkB.up, u.ports.linkB.mirror]] ++
        be32 u.dwell.passes ++ [flagByte [u.dwell.cursor.isSome, u.dwell.passPending], u.notices.pendingSet]]⟩)) ∧
    ∀ (sel : Byte) (value : Word), s.hostTakes (.lookup hd sel value) f u →
      let out := fun (a : Answer) => exec (.lookup hd sel value) s = .next (u.respond f a)
      let found := fun (h : Handle) (r : Record) =>
        (sel = 0 ∧ u.engine.binIndex.look value.toNat = some h.slot ∧ u.engine.records.look h.slot = some r ∧
            h = u.handleOf h.slot) ∨
          (sel = 1 ∧ value.toNat < 32768 ∧ h = ⟨value.toNat % 2048, value.toNat / 2048⟩ ∧ u.recordOf h = some r)
      (1 < sel.toNat ∨ (sel = 1 ∧ 65535 < value.toNat) → out ⟨.badField, [[]]⟩) ∧
      (sel.toNat ≤ 1 → (sel = 1 → value.toNat ≤ 65535) → (∀ h r, ¬ found h r) → out ⟨.none, [[]]⟩) ∧
      ∀ h r, found h r →
        let c := r.custody
        let giver := c.spot.map (·.giver)
        let override := match c with
          | .booked _ _ _ (some m) _ => m
          | _ => 0
        let time := match c.timing with
          | some (.armed d) => d
          | some (.held saved) => wordOf saved
          | none => 0
        out ⟨.ok, [be16 h.wire ++ be32 (wordOf r.bin) ++ [c.state.code, r.cls.code, r.wave, byteOf r.priority,
          byteOf (16 * r.originZone + r.presentZone), flagByte [r.warned, r.overdue, r.exempt, r.rescued, c.isHeld]] ++
          be16 (halfOf (c.party.getD 0)) ++ be16 (halfOf (giver.getD 0)) ++ be16 (halfOf (c.receiver.getD 0)) ++
          be16 (halfOf (c.lapsed.getD 0)) ++ cellField c.cell ++
          [smallField (c.spot.bind fun spot => u.position spot.cell h), (c.spot.map (·.mask)).getD 0, override,
            smallField (r.route.map (·.plan)), smallField (r.route.map (·.leg)), byteOf (16 * r.hops + r.hopLimit)] ++
          be16 (halfOf r.exposure) ++ be16 (halfOf r.budget) ++ be32 ((c.spot.map (·.seq)).getD 0) ++ be32 time ++
          be32 r.openedAt]⟩) ∧
  ∀ (s : State) (hd : Hdr) (start : Half) (count : Byte) (f : Frame) (u : State), s.hostTakes (.scan hd start count) f u →
    u.engine.records.wf = true →
    let out := fun (a : Answer) => exec (.scan hd start count) s = .next (u.respond f a)
    (2047 < start.toNat ∨ count = 0 ∨ 8 < count.toNat → out ⟨.badField, [[]]⟩) ∧
    (start.toNat ≤ 2047 → 1 ≤ count.toNat → count.toNat ≤ 8 → ∃ (found : List (Nat × Record)) (next : Nat),
      out ⟨.ok, (be16 (halfOf next) ++ [byteOf found.length]) :: found.map fun p => recordBlock u (u.handleOf p.1) p.2⟩ ∧
      found.length ≤ count.toNat ∧ found.Pairwise (fun x y => x.1 < y.1) ∧
      (∀ n r, (n, r) ∈ found ↔ u.engine.records.look n = some r ∧ start.toNat ≤ n ∧ (found.length = count.toNat → n < next)) ∧
      (found.length < count.toNat → next = 2048) ∧
      (found.length = count.toNat → ∃ r, (next - 1, r) ∈ found))

/-- RETIRE of a handle that does not resolve is answered STALE_HANDLE with an empty body, which is inferred (log 13); else
the record is retired and the reply gives its state as it was (R209). FLUSH in SETUP is answered OK with 0; in RUN it stops
the Dwell Unit and makes the mode FLUSHING, and on an empty table it ends in its own step, which is inferred (log 15). Each
retirement of a FLUSH retires the live record of the lowest slot and counts it; when none remains the mode becomes SETUP and
the reply leaves with the number retired, and the replies formed meanwhile leave behind it, which is inferred (log 6).
Outside FLUSHING that command changes nothing (R210; log 21). -/
def Obligations.RetireAndFlush : Prop :=
  (∀ (s : State) (hd : Hdr) (f : Frame) (u : State),
    (∀ handle : Half, s.hostTakes (.retire hd handle) f u →
      let out := fun (t : State) (r : Result) (body : List Byte) =>
        exec (.retire hd handle) s = .next (t.respond f ⟨r, [body]⟩)
      (u.resolve handle = none → out u .staleHandle []) ∧
      ∀ h r, u.resolve handle = some (h, r) → out (u.retire h r) .ok (be16 h.wire ++ [r.custody.state.code])) ∧
    (s.ready (.flush hd) = some (f, u) →
      let v : State :=
        { u with
          engine := { u.engine with mode := .flushing, flush := some ⟨f, 0⟩ }
          dwell :=
            { u.dwell with
              timer := none
              cursor := none
              passPending := false } }
      (u.engine.mode = .setup → exec (.flush hd) s = .next (u.respond f ⟨.ok, [[0, 0]]⟩)) ∧
      (u.engine.mode = .run → u.engine.records ≠ [] → exec (.flush hd) s = .next v) ∧
      (u.engine.mode = .run → u.engine.records = [] → exec (.flush hd) s = .next (v.flushEnded ⟨f, 0⟩)))) ∧
  ∀ s : State, (s.engine.mode ≠ .flushing → exec .flushRetirement s = .next s) ∧
    ∀ slot r run, s.engine.mode = .flushing → s.engine.records.wf = true → s.engine.records.look slot = some r →
      (∀ m, m < slot → s.engine.records.look m = none) → s.engine.flush = some run → run.request.port = .host →
      let run1 : FlushRun := { run with retired := run.retired + 1 }
      let x := s.retire (s.handleOf slot) r
      let v : State := { x with engine := { x.engine with flush := some run1 } }
      exec .flushRetirement s = .next (if v.liveCount = 0 then v.flushEnded run1 else v)

/-- RESET is answered OK, and once that reply has left the part performs a device reset, in the same step (R211; that the reply
leaves in its step is inferred, log 23). A device reset gives every block the state that the rules give after reset; the commands
waiting and the frames that have left stay (R26, R81, R117, R151, R152, R159, R162, R193, R195, R197, R199, R204, R211; log 5 and
log 19). A millisecond advances the grid clock, which wraps, and the running timers (R134; log 4). -/
def Obligations.ResetAndGridClock : Prop :=
  ∀ s : State,
    (∀ (hd : Hdr) (f : Frame) (u : State), s.hostTakes (.reset hd) f u →
      exec (.reset hd) s = .next
        { State.reset with
          pending := s.pending
          sent := s.sent ++ [⟨.host, 0xA6, 0, hd.tag, 1, []⟩] }) ∧
    (∃ t : State, exec .deviceReset s = .next t ∧ t = { State.reset with pending := s.pending, sent := s.sent } ∧
      t.engine.mode = .setup ∧ t.liveCount = 0 ∧ (∀ n, t.generation n = 0) ∧ t.engine.freeSlots = List.range 2048 ∧
      (∀ n, t.cell n = none) ∧ (∀ n, t.robot n = none) ∧ t.engine.missLimit = 3 ∧ t.engine.stageSeq = 0 ∧
      (∀ l, t.ports.robotLink l = ⟨false, none, false, 40, 120, 8, []⟩) ∧ t.ports.pointer = .link .a ∧
      t.ports.hostQueue = [] ∧ (∀ g, t.queueOf g = []) ∧ t.timer = ⟨0, []⟩ ∧ (∀ n, t.zone n = ⟨40, true, 15, true⟩) ∧
      t.dwell.params .ambient = ⟨60, 2, 0, 65535, 6, none⟩ ∧ t.dwell.params .chilled = ⟨10, 8, 1, 40000, 6, none⟩ ∧
      t.dwell.params .frozen = ⟨-36, 24, 2, 12000, 6, none⟩ ∧ t.dwell.period = 4 ∧ t.dwell.staleLimit = 8 ∧
      t.dwell.staleMargin = 4 ∧ t.dwell.timer = none ∧ t.dwell.cursor = none ∧ t.dwell.passes = 0 ∧
      (∀ n, t.plans.look n = none) ∧ (∀ n, (t.rule n).valid = false ∧ (t.rule n).hit = false) ∧
      (∀ q, t.notices.queue q = ⟨[], false⟩) ∧ t.notices.pendingSet = 0 ∧ t.notices.overrunSet = 0 ∧ t.notices.enabled = 0 ∧
      ∀ zone slot, t.notices.counter zone slot = 0) ∧
    exec .gridClockAdvance s = .next
      { s with
        timer := { s.timer with clock := s.timer.clock + 1 }
        ports :=
          { s.ports with
            linkA := { s.ports.linkA with silence := s.ports.linkA.silence.map fun n => n - 1 }
            linkB := { s.ports.linkB with silence := s.ports.linkB.silence.map fun n => n - 1 } }
        dwell := { s.dwell with timer := s.dwell.timer.map fun n => n - 1 } }

/-! ## Notices, alerts and counters -/

/-- A notice posted joins the tail of its queue with the grid clock as its time, or is dropped with DROPPED set when the queue
holds 64; nothing else changes. NOTICE-READ takes up to four notices from the head, oldest first, a block each, and leaves
DROPPED as it is (R212, R213; a bin ID that is absent is a free value, log 9). -/
def Obligations.NoticesPostedAndRead : Prop :=
  (∀ (s : State) (q : QueueId) (n : Notice),
    let t := s.post q n
    let old := s.notices.queue q
    t = { s with notices := t.notices } ∧
    t.notices.queue q = (if old.items.length < 64 then
      { old with items := old.items ++ [{ n with time := s.timer.clock }] } else { old with dropped := true }) ∧
    (∀ q', q' ≠ q → t.notices.queue q' = s.notices.queue q') ∧
    { t.notices with
      custody := s.notices.custody
      timing := s.notices.timing
      thermal := s.notices.thermal
      rule := s.notices.rule } = s.notices) ∧
  ∀ (s : State) (hd : Hdr) (queue most : Byte) (f : Frame) (u : State), s.hostTakes (.noticeRead hd queue most) f u →
    (3 < queue.toNat ∨ most = 0 ∨ 4 < most.toNat →
      exec (.noticeRead hd queue most) s = .next (u.respond f ⟨.badField, [[]]⟩)) ∧
    ∀ q : QueueId, QueueId.ofByte queue = some q → 1 ≤ most.toNat → most.toNat ≤ 4 →
      let old := u.notices.queue q
      let out := old.items.take most.toNat
      ∃ (t : State) (blocks : List (List Byte)),
        exec (.noticeRead hd queue most) s = .next (t.respond f ⟨.ok,
          [byteOf out.length, byteOf (old.items.length - out.length), if old.dropped then 1 else 0] :: blocks⟩) ∧
        t = { u with notices := u.notices.modQueue q fun _ => { old with items := old.items.drop most.toNat } } ∧
        blocks.length = out.length ∧
        ∀ (i : Nat) (n : Notice), out[i]? = some n → ∃ bin : List Byte, bin.length = 4 ∧
          (∀ b, n.bin = some b → bin = be32 (wordOf b)) ∧
          blocks[i]? = some ([n.kind.code] ++ be32 n.time ++
            [flagByte [n.handle.isSome, n.bin.isSome, n.robot.isSome, n.cell.isSome, n.zone.isSome]] ++
            handleField n.handle ++ bin ++ be16 (halfOf (n.robot.getD 0)) ++ cellField n.cell ++
            [byteOf (n.zone.getD 0), n.detail])

/-- ALERT-READ reports the first source that is pending and enabled, or 255, and the three sets; ALERT-MASK replaces the
enabled set; ALERT-CLEAR clears pending and overrun of the edge sources and DROPPED of the queue sources in its set. A set with
bit 6 or 7 on is refused. The alert line is asserted while a source is both pending and enabled (R214, R215). -/
def Obligations.AlertRequests : Prop :=
  ∀ (s : State) (hd : Hdr) (f : Frame) (u : State),
    let pend := fun (x : NoticeUnit) (i : Nat) => match i with
      | 0 => x.linkEdge.pending
      | 1 => !x.thermal.items.isEmpty
      | 2 => !x.timing.items.isEmpty
      | 3 => !x.custody.items.isEmpty
      | 4 => !x.rule.items.isEmpty
      | 5 => x.capacityEdge.pending
      | _ => false
    let lost := fun (x : NoticeUnit) => flagByte [x.linkEdge.overrun, x.thermal.dropped, x.timing.dropped,
      x.custody.dropped, x.rule.dropped, x.capacityEdge.overrun]
    let sets := fun (x : NoticeUnit) =>
      [flagByte [pend x 0, pend x 1, pend x 2, pend x 3, pend x 4, pend x 5], lost x, x.enabled]
    let alerting := fun (x : NoticeUnit) (i : Nat) => pend x i = true ∧ x.enabled.getLsbD i = true
    (alertLine s = true ↔ ∃ i, alerting s.notices i) ∧
    (s.hostTakes (.alertRead hd) f u →
      let out := fun (top : Byte) => exec (.alertRead hd) s = .next (u.respond f ⟨.ok, [top :: sets u.notices]⟩)
      ((∀ i, ¬ alerting u.notices i) → out 255) ∧
      ∀ i, alerting u.notices i → (∀ j, j < i → ¬ alerting u.notices j) → out (byteOf i)) ∧
    (∀ enabled : Byte, s.hostTakes (.alertMask hd enabled) f u →
      let x : NoticeUnit := { u.notices with enabled := enabled }
      exec (.alertMask hd enabled) s = .next (if 63 < enabled.toNat then u.respond f ⟨.badField, [[]]⟩
        else State.respond { u with notices := x } f ⟨.ok, [sets x]⟩)) ∧
    ∀ b : Byte, s.hostTakes (.alertClear hd b) f u →
      let drop := fun (i : Nat) (q : NoticeQueue) => ({ q with dropped := q.dropped && !b.getLsbD i } : NoticeQueue)
      let edge := fun (i : Nat) (e : Edge) => (⟨e.pending && !b.getLsbD i, e.overrun && !b.getLsbD i⟩ : Edge)
      let x : NoticeUnit :=
        { u.notices with
          linkEdge := edge 0 u.notices.linkEdge
          thermal := drop 1 u.notices.thermal
          timing := drop 2 u.notices.timing
          custody := drop 3 u.notices.custody
          rule := drop 4 u.notices.rule
          capacityEdge := edge 5 u.notices.capacityEdge }
      exec (.alertClear hd b) s = .next (if 63 < b.toNat then u.respond f ⟨.badField, [[]]⟩
        else State.respond { u with notices := x } f ⟨.ok, [sets x]⟩)

/-- A counter event adds to the counters of its zone whose slot's event set holds its kind: 1, or under the unit EXPOSURE the
amount of an ACCRUAL event and 0 for another. COUNTER-MASK replaces a slot's set and unit and keeps the counters, COUNTER-READ
changes nothing, COUNTER-CLEAR zeroes one zone or, for 255, all (R216, R217). -/
def Obligations.CountersCountAndClear : Prop :=
  (∀ (s : State) (e : EventKind) (zone amount : Nat),
    let t := s.countEvent e zone amount
    t = { s with notices := { s.notices with counters := t.notices.counters } } ∧
    ∀ z i, i < 4 → t.notices.counter z i = s.notices.counter z i +
      (let c := s.notices.slots.lookD .reset i
       if z = zone ∧ c.events.getLsbD e.bit = true then
         if c.exposure = false then 1 else if e = .accrual then wordOf amount else 0
       else 0)) ∧
  ∀ (s : State) (hd : Hdr) (f : Frame) (u : State),
    (∀ i events unit : Byte, s.hostTakes (.counterMask hd i events unit) f u →
      exec (.counterMask hd i events unit) s = .next
        (if 3 < i.toNat ∨ 1 < unit.toNat then u.respond f ⟨.badField, [[]]⟩
         else State.respond { u with
           notices :=
             { u.notices with slots := u.notices.slots.putD .reset i.toNat ⟨events, decide (unit = 1)⟩ } } f
           ⟨.ok, [[i, events, unit]]⟩)) ∧
    (∀ zone : Byte, s.hostTakes (.counterRead hd zone) f u →
      let c := u.notices.counter zone.toNat
      exec (.counterRead hd zone) s = .next (u.respond f
        (if 15 < zone.toNat then ⟨.badField, [[]]⟩
         else ⟨.ok, [[zone] ++ be32 (c 0) ++ be32 (c 1) ++ be32 (c 2) ++ be32 (c 3)]⟩))) ∧
    ∀ zone : Byte, s.hostTakes (.counterClear hd zone) f u →
      (15 < zone.toNat → zone ≠ 255 → exec (.counterClear hd zone) s = .next (u.respond f ⟨.badField, [[]]⟩)) ∧
      (zone.toNat ≤ 15 ∨ zone = 255 → ∃ t : State,
        exec (.counterClear hd zone) s = .next (t.respond f ⟨.ok, [[zone]]⟩) ∧
        t = { u with notices := { u.notices with counters := t.notices.counters } } ∧
        ∀ z i, i < 4 → t.notices.counter z i = if zone = 255 ∨ z = zone.toNat then 0 else u.notices.counter z i)

/-! ## The laws that every step keeps -/

/-- The state after a device reset meets every law, and its pickup queues and deadline list are in order (R4, R6, R31, R33, R82,
R95, R118, R136, R152, R195, R204, R212). -/
def Obligations.ResetMeetsLaws : Prop :=
  State.reset.laws ∧ State.reset.queueOrder ∧ State.reset.queuesYoung ∧ State.reset.deadlineOrder ∧ State.reset.timely

/-- Every step keeps the law of the slots: the Free Slot Queue holds each free slot once, and the Bin Index is the bin IDs of
the live records, 0 never among them (R1, R3, R4, R6). -/
def Obligations.StepKeepsSlotLaw : Prop :=
  ∀ s t : State, s.slotLaw → step s = .next t → t.slotLaw

/-- Every step keeps the laws of the records: exposure and its flags, priority, hop count and hop limit; the law of the plans:
a defined plan's reference count is the number of live records that name it, and a plan so named is defined; and the law of the
masks: none is empty (R10, R14, R16, R17, R18, R118, R125). -/
def Obligations.StepKeepsRecordLaw : Prop :=
  ∀ s t : State, s.slotLaw → step s = .next t →
    (s.recordLaw → t.recordLaw) ∧ (s.planLaw → t.planLaw) ∧ (s.laws → t.maskLaw)

/-- Every step keeps the law of the parties: a robot's party reference names a record and a role exactly when that live record
names the robot as its party in that role, so a robot is party to at most one; and every party is enrolled (R82). -/
def Obligations.StepKeepsPartyLaw : Prop :=
  ∀ s t : State, s.laws → step s = .next t → t.partyLaw

/-- Every step keeps the law of the cells: a stack lists once each the STAGED and CLAIMED records on its cell, a CLAIMED one only
on top; the reserved count is the number of records BOOKED for the cell; the two together are within the capacity; and a cell
that a live record names is defined (R31 to R33). -/
def Obligations.StepKeepsCellLaw : Prop :=
  ∀ s t : State, s.laws → step s = .next t → t.cellLaw

/-- Every step keeps the law of the pickup queues: a record stands in a group's queue exactly when it is STAGED, the top of its
cell's stack and the group is in its mask, once, with its own priority and stage sequence, and behind no record of lower
priority. While no entry's age is about to wrap, every step also keeps each queue in the order of R96 as the counter stands
(R95 to R97; the order's reading is inferred, log 7). -/
def Obligations.StepKeepsQueueLaw : Prop :=
  ∀ s t : State, s.laws → step s = .next t → t.queueLaw ∧ (s.queueOrder → s.queuesYoung → t.queueOrder)

/-- Every step keeps the law of the deadline list: one entry for each record that has a deadline, with its instant and kind, and
no other; and a BOOKED or CLAIMED record has a deadline exactly while its party's last link is UP. While no entry was reached
2^30 milliseconds ago or more, every step also keeps the list in order of instant (R19, R136, R146). -/
def Obligations.StepKeepsDeadlineLaw : Prop :=
  ∀ s t : State, s.laws → step s = .next t → t.deadlineLaw ∧ (s.deadlineOrder → s.timely → t.deadlineOrder)

/-- Every step keeps the law of the device mode, and the laws of links, zones and queues (R152, R163, R167, R192, R195, R197,
R204, R212). -/
def Obligations.StepKeepsModeAndBounds : Prop :=
  ∀ s t : State, s.slotLaw → s.modeLaw → s.boundsLaw → step s = .next t → t.modeLaw ∧ t.boundsLaw

/-- A record keeps for life what DECLARE fixed: while its slot and generation stay live, its bin ID, class, wave, origin zone,
time of opening, budget and exempt flag stay, and priority, hop count and exposure never fall (R9, R10, R17, R18, R169). -/
def Obligations.RecordKeepsIdentity : Prop :=
  ∀ (s t : State) (h : Handle) (r r' : Record), s.slotLaw → s.recordLaw → step s = .next t →
    s.recordOf h = some r → t.recordOf h = some r' →
    r'.bin = r.bin ∧ r'.cls = r.cls ∧ r'.wave = r.wave ∧ r'.originZone = r.originZone ∧ r'.openedAt = r.openedAt ∧
      r'.budget = r.budget ∧ r'.exempt = r.exempt ∧ r.priority ≤ r'.priority ∧ r.hops ≤ r'.hops ∧
      r.exposure ≤ r'.exposure ∧ (r.warned = true → r'.warned = true) ∧ (r.overdue = true → r'.overdue = true) ∧
      (r.rescued = true → r'.rescued = true)
end

