-- ==== Sys2Proof/Laws/State.lean ====
section
/-! SUPPORT. One lemma per field per update of one block, true by rfl, so that no later proof unfolds a record update. -/

namespace Sys2Proof.Machine

variable (s : State)

section
variable (f : PortUnit → PortUnit)
@[simp] theorem State.modPorts_ports : (s.modPorts f).ports = f s.ports := rfl
@[simp] theorem State.modPorts_engine : (s.modPorts f).engine = s.engine := rfl
@[simp] theorem State.modPorts_pickup : (s.modPorts f).pickup = s.pickup := rfl
@[simp] theorem State.modPorts_timer : (s.modPorts f).timer = s.timer := rfl
@[simp] theorem State.modPorts_dwell : (s.modPorts f).dwell = s.dwell := rfl
@[simp] theorem State.modPorts_plans : (s.modPorts f).plans = s.plans := rfl
@[simp] theorem State.modPorts_rules : (s.modPorts f).rules = s.rules := rfl
@[simp] theorem State.modPorts_notices : (s.modPorts f).notices = s.notices := rfl
@[simp] theorem State.modPorts_pending : (s.modPorts f).pending = s.pending := rfl
@[simp] theorem State.modPorts_sent : (s.modPorts f).sent = s.sent := rfl
end

section
variable (f : Engine → Engine)
@[simp] theorem State.modEngine_ports : (s.modEngine f).ports = s.ports := rfl
@[simp] theorem State.modEngine_engine : (s.modEngine f).engine = f s.engine := rfl
@[simp] theorem State.modEngine_pickup : (s.modEngine f).pickup = s.pickup := rfl
@[simp] theorem State.modEngine_timer : (s.modEngine f).timer = s.timer := rfl
@[simp] theorem State.modEngine_dwell : (s.modEngine f).dwell = s.dwell := rfl
@[simp] theorem State.modEngine_plans : (s.modEngine f).plans = s.plans := rfl
@[simp] theorem State.modEngine_rules : (s.modEngine f).rules = s.rules := rfl
@[simp] theorem State.modEngine_notices : (s.modEngine f).notices = s.notices := rfl
@[simp] theorem State.modEngine_pending : (s.modEngine f).pending = s.pending := rfl
@[simp] theorem State.modEngine_sent : (s.modEngine f).sent = s.sent := rfl
end

section
variable (f : Table (List PickupEntry) → Table (List PickupEntry))
@[simp] theorem State.modPickup_ports : (s.modPickup f).ports = s.ports := rfl
@[simp] theorem State.modPickup_engine : (s.modPickup f).engine = s.engine := rfl
@[simp] theorem State.modPickup_pickup : (s.modPickup f).pickup = f s.pickup := rfl
@[simp] theorem State.modPickup_timer : (s.modPickup f).timer = s.timer := rfl
@[simp] theorem State.modPickup_dwell : (s.modPickup f).dwell = s.dwell := rfl
@[simp] theorem State.modPickup_plans : (s.modPickup f).plans = s.plans := rfl
@[simp] theorem State.modPickup_rules : (s.modPickup f).rules = s.rules := rfl
@[simp] theorem State.modPickup_notices : (s.modPickup f).notices = s.notices := rfl
@[simp] theorem State.modPickup_pending : (s.modPickup f).pending = s.pending := rfl
@[simp] theorem State.modPickup_sent : (s.modPickup f).sent = s.sent := rfl
end

section
variable (f : DeadlineTimer → DeadlineTimer)
@[simp] theorem State.modTimer_ports : (s.modTimer f).ports = s.ports := rfl
@[simp] theorem State.modTimer_engine : (s.modTimer f).engine = s.engine := rfl
@[simp] theorem State.modTimer_pickup : (s.modTimer f).pickup = s.pickup := rfl
@[simp] theorem State.modTimer_timer : (s.modTimer f).timer = f s.timer := rfl
@[simp] theorem State.modTimer_dwell : (s.modTimer f).dwell = s.dwell := rfl
@[simp] theorem State.modTimer_plans : (s.modTimer f).plans = s.plans := rfl
@[simp] theorem State.modTimer_rules : (s.modTimer f).rules = s.rules := rfl
@[simp] theorem State.modTimer_notices : (s.modTimer f).notices = s.notices := rfl
@[simp] theorem State.modTimer_pending : (s.modTimer f).pending = s.pending := rfl
@[simp] theorem State.modTimer_sent : (s.modTimer f).sent = s.sent := rfl
end

section
variable (f : DwellUnit → DwellUnit)
@[simp] theorem State.modDwell_ports : (s.modDwell f).ports = s.ports := rfl
@[simp] theorem State.modDwell_engine : (s.modDwell f).engine = s.engine := rfl
@[simp] theorem State.modDwell_pickup : (s.modDwell f).pickup = s.pickup := rfl
@[simp] theorem State.modDwell_timer : (s.modDwell f).timer = s.timer := rfl
@[simp] theorem State.modDwell_dwell : (s.modDwell f).dwell = f s.dwell := rfl
@[simp] theorem State.modDwell_plans : (s.modDwell f).plans = s.plans := rfl
@[simp] theorem State.modDwell_rules : (s.modDwell f).rules = s.rules := rfl
@[simp] theorem State.modDwell_notices : (s.modDwell f).notices = s.notices := rfl
@[simp] theorem State.modDwell_pending : (s.modDwell f).pending = s.pending := rfl
@[simp] theorem State.modDwell_sent : (s.modDwell f).sent = s.sent := rfl
end

section
variable (f : Table Plan → Table Plan)
@[simp] theorem State.modPlans_ports : (s.modPlans f).ports = s.ports := rfl
@[simp] theorem State.modPlans_engine : (s.modPlans f).engine = s.engine := rfl
@[simp] theorem State.modPlans_pickup : (s.modPlans f).pickup = s.pickup := rfl
@[simp] theorem State.modPlans_timer : (s.modPlans f).timer = s.timer := rfl
@[simp] theorem State.modPlans_dwell : (s.modPlans f).dwell = s.dwell := rfl
@[simp] theorem State.modPlans_plans : (s.modPlans f).plans = f s.plans := rfl
@[simp] theorem State.modPlans_rules : (s.modPlans f).rules = s.rules := rfl
@[simp] theorem State.modPlans_notices : (s.modPlans f).notices = s.notices := rfl
@[simp] theorem State.modPlans_pending : (s.modPlans f).pending = s.pending := rfl
@[simp] theorem State.modPlans_sent : (s.modPlans f).sent = s.sent := rfl
end

section
variable (f : Table Rule → Table Rule)
@[simp] theorem State.modRules_ports : (s.modRules f).ports = s.ports := rfl
@[simp] theorem State.modRules_engine : (s.modRules f).engine = s.engine := rfl
@[simp] theorem State.modRules_pickup : (s.modRules f).pickup = s.pickup := rfl
@[simp] theorem State.modRules_timer : (s.modRules f).timer = s.timer := rfl
@[simp] theorem State.modRules_dwell : (s.modRules f).dwell = s.dwell := rfl
@[simp] theorem State.modRules_plans : (s.modRules f).plans = s.plans := rfl
@[simp] theorem State.modRules_rules : (s.modRules f).rules = f s.rules := rfl
@[simp] theorem State.modRules_notices : (s.modRules f).notices = s.notices := rfl
@[simp] theorem State.modRules_pending : (s.modRules f).pending = s.pending := rfl
@[simp] theorem State.modRules_sent : (s.modRules f).sent = s.sent := rfl
end

section
variable (f : NoticeUnit → NoticeUnit)
@[simp] theorem State.modNotices_ports : (s.modNotices f).ports = s.ports := rfl
@[simp] theorem State.modNotices_engine : (s.modNotices f).engine = s.engine := rfl
@[simp] theorem State.modNotices_pickup : (s.modNotices f).pickup = s.pickup := rfl
@[simp] theorem State.modNotices_timer : (s.modNotices f).timer = s.timer := rfl
@[simp] theorem State.modNotices_dwell : (s.modNotices f).dwell = s.dwell := rfl
@[simp] theorem State.modNotices_plans : (s.modNotices f).plans = s.plans := rfl
@[simp] theorem State.modNotices_rules : (s.modNotices f).rules = s.rules := rfl
@[simp] theorem State.modNotices_notices : (s.modNotices f).notices = f s.notices := rfl
@[simp] theorem State.modNotices_pending : (s.modNotices f).pending = s.pending := rfl
@[simp] theorem State.modNotices_sent : (s.modNotices f).sent = s.sent := rfl
end

section
variable (frames : List Frame)
@[simp] theorem State.send_ports : (s.send frames).ports = s.ports := rfl
@[simp] theorem State.send_engine : (s.send frames).engine = s.engine := rfl
@[simp] theorem State.send_pickup : (s.send frames).pickup = s.pickup := rfl
@[simp] theorem State.send_timer : (s.send frames).timer = s.timer := rfl
@[simp] theorem State.send_dwell : (s.send frames).dwell = s.dwell := rfl
@[simp] theorem State.send_plans : (s.send frames).plans = s.plans := rfl
@[simp] theorem State.send_rules : (s.send frames).rules = s.rules := rfl
@[simp] theorem State.send_notices : (s.send frames).notices = s.notices := rfl
@[simp] theorem State.send_pending : (s.send frames).pending = s.pending := rfl
@[simp] theorem State.send_sent : (s.send frames).sent = s.sent ++ frames := rfl
end

/-- Two changes of one block are one change. -/
@[simp] theorem State.modEngine_modEngine (f g : Engine → Engine) :
    (s.modEngine f).modEngine g = s.modEngine fun e => g (f e) := rfl

@[simp] theorem State.modNotices_modNotices (f g : NoticeUnit → NoticeUnit) :
    (s.modNotices f).modNotices g = s.modNotices fun u => g (f u) := rfl

@[simp] theorem State.modTimer_modTimer (f g : DeadlineTimer → DeadlineTimer) :
    (s.modTimer f).modTimer g = s.modTimer fun t => g (f t) := rfl

end Sys2Proof.Machine
end

