-- ==== Sys2Proof/Laws/Table.lean ====
section
/-! SUPPORT. The laws of the tables kept by number: a read after a write gives the value written, a write leaves every other
number alone, and every write keeps the canonical form. -/

namespace Sys2Proof.Machine

variable {α : Type}

@[simp] theorem Table.look_nil (n : Nat) : Table.look ([] : Table α) n = none := rfl

@[simp] theorem Table.look_put_self (t : Table α) (n : Nat) (v : α) : (Table.put t n v).look n = some v := by
  induction t with
  | nil => simp [Table.put, Table.look]
  | cons p t ih =>
    obtain ⟨k, w⟩ := p
    simp only [Table.put]
    split
    · simp [Table.look]
    · split
      · simp [Table.look]
      · rename_i h
        simp [Table.look, Ne.symm h, ih]

theorem Table.look_put_ne (t : Table α) {n m : Nat} (v : α) (h : m ≠ n) : (Table.put t n v).look m = t.look m := by
  induction t with
  | nil => simp [Table.put, Table.look, Ne.symm h]
  | cons p t ih =>
    obtain ⟨k, w⟩ := p
    simp only [Table.put]
    split
    · simp [Table.look, Ne.symm h]
    · split
      · rename_i hk
        subst hk
        simp [Table.look, Ne.symm h]
      · simp [Table.look, ih]

@[simp] theorem Table.look_put (t : Table α) (n m : Nat) (v : α) :
    (Table.put t n v).look m = if m = n then some v else t.look m := by
  split
  · rename_i h; subst h; simp
  · rename_i h; exact Table.look_put_ne t v h

@[simp] theorem Table.look_del (t : Table α) (n m : Nat) :
    (Table.del t n).look m = if m = n then none else t.look m := by
  unfold Table.del
  induction t with
  | nil => simp
  | cons p t ih =>
    obtain ⟨k, w⟩ := p
    by_cases hk : k = n
    · subst hk
      by_cases hm : m = k
      · subst hm; simp_all
      · simp_all [Table.look, Ne.symm hm]
    · by_cases hm : m = n
      · subst hm; simp_all [Table.look]
      · simp_all [Table.look]

@[simp] theorem Table.lookD_putD [DecidableEq α] (d : α) (t : Table α) (n m : Nat) (v : α) :
    (Table.putD d t n v).lookD d m = if m = n then v else t.lookD d m := by
  unfold Table.putD Table.lookD
  by_cases hv : v = d
  · subst hv; by_cases h : m = n <;> simp [h]
  · by_cases h : m = n <;> simp [h, hv]

/-- The canonical form, said of the list of numbers. -/
theorem Table.wf_iff (t : Table α) : t.wf = true ↔ (t.map Prod.fst).Pairwise (· < ·) := by
  induction t with
  | nil => simp [Table.wf]
  | cons p t ih =>
    cases t with
    | nil => simp [Table.wf]
    | cons q t =>
      simp only [Table.wf, Bool.and_eq_true, decide_eq_true_eq, ih, List.map_cons, List.pairwise_cons, List.mem_cons,
        forall_eq_or_imp]
      constructor
      · rintro ⟨h1, h2, h3⟩
        exact ⟨⟨h1, fun a ha => Nat.lt_trans h1 (h2 a ha)⟩, h2, h3⟩
      · rintro ⟨⟨h1, _⟩, h2, h3⟩
        exact ⟨h1, h2, h3⟩

/-- A number of a written table is the one written or was there before. -/
theorem Table.mem_put_keys (t : Table α) (n : Nat) (v : α) (k : Nat) (h : k ∈ (t.put n v).map Prod.fst) :
    k = n ∨ k ∈ t.map Prod.fst := by
  induction t with
  | nil => simpa [Table.put] using h
  | cons p t ih =>
    obtain ⟨j, w⟩ := p
    simp only [Table.put] at h
    split at h
    · simpa using h
    · split at h
      · simp only [List.map_cons, List.mem_cons] at h ⊢
        rcases h with h | h
        · exact .inl h
        · exact .inr (.inr h)
      · simp only [List.map_cons, List.mem_cons] at h ⊢
        rcases h with h | h
        · exact .inr (.inl h)
        · rcases ih h with h | h
          · exact .inl h
          · exact .inr (.inr h)

/-- A write keeps the canonical form. -/
theorem Table.wf_put (t : Table α) (n : Nat) (v : α) (h : t.wf = true) : (t.put n v).wf = true := by
  rw [Table.wf_iff] at h ⊢
  induction t with
  | nil => simp [Table.put]
  | cons p t ih =>
    obtain ⟨k, w⟩ := p
    simp only [List.map_cons, List.pairwise_cons] at h
    simp only [Table.put]
    split
    · rename_i hk
      simp only [List.map_cons, List.pairwise_cons, List.mem_cons, forall_eq_or_imp]
      exact ⟨⟨hk, fun a ha => Nat.lt_trans hk (h.1 a ha)⟩, h.1, h.2⟩
    · split
      · rename_i hk
        subst hk
        simpa using h
      · rename_i h1 h2
        simp only [List.map_cons, List.pairwise_cons]
        refine ⟨fun a ha => ?_, ih h.2⟩
        rcases Table.mem_put_keys t n v a ha with rfl | ha
        · omega
        · exact h.1 a ha

/-- A removal keeps the canonical form. -/
theorem Table.wf_del (t : Table α) (n : Nat) (h : t.wf = true) : (t.del n).wf = true := by
  rw [Table.wf_iff] at h ⊢
  exact h.sublist (List.filter_sublist.map _)

/-- A write with a default keeps the canonical form. -/
theorem Table.wf_putD [DecidableEq α] (d : α) (t : Table α) (n : Nat) (v : α) (h : t.wf = true) :
    (t.putD d n v).wf = true := by
  unfold Table.putD
  split
  · exact Table.wf_del t n h
  · exact Table.wf_put t n v h

/-- A second write of a number replaces the first. -/
@[simp] theorem Table.put_put (t : Table α) (n : Nat) (a b : α) : (Table.put t n a).put n b = Table.put t n b := by
  induction t with
  | nil => simp [Table.put]
  | cons p t ih =>
    obtain ⟨k, w⟩ := p
    simp only [Table.put]
    split
    · simp [Table.put]
    · split <;> simp [Table.put, *]

/-- In canonical form, looking a number up is finding its pair. -/
theorem Table.look_eq_some_iff (t : Table α) (h : t.wf = true) (n : Nat) (v : α) : t.look n = some v ↔ (n, v) ∈ t := by
  rw [Table.wf_iff] at h
  induction t with
  | nil => simp
  | cons p t ih =>
    obtain ⟨k, w⟩ := p
    simp only [List.map_cons, List.pairwise_cons] at h
    simp only [Table.look, List.mem_cons, Prod.mk.injEq]
    split
    · rename_i hk
      subst hk
      constructor
      · intro hh
        cases hh
        simp
      · rintro (⟨_, rfl⟩ | hm)
        · rfl
        · have := h.1 k (List.mem_map_of_mem (f := Prod.fst) hm)
          omega
    · rw [ih h.2]
      constructor
      · intro hm
        exact Or.inr hm
      · rintro (⟨rfl, _⟩ | hm)
        · contradiction
        · exact hm

end Sys2Proof.Machine
end

