-- ==== Sys2Proof/Laws/Ops.lean ====
section
/-! SUPPORT. One lemma for each shared operation that says what it can do. -/

namespace Sys2Proof.Machine

/-! ## Serving a request -/

/-- Where a request stands before the engine takes it: as it is, or presented at its port. -/
theorem State.ready_eq (s : State) {c : Instr} {f : Frame} (hf : c.frame = some f) :
    s.ready c =
      if (if s.ports.nextRequest = some f then s else s.present f).ports.nextRequest = some f then
        some (f, (if s.ports.nextRequest = some f then s else s.present f).modPorts PortUnit.take)
      else none := by
  simp only [State.ready, hf]

/-- The frame that `ready` gives is the command's. -/
theorem State.ready_frame {s u : State} {c : Instr} {f : Frame} (h : s.ready c = some (f, u)) : c.frame = some f := by
  cases hf : c.frame with
  | none => simp [State.ready, hf] at h
  | some g =>
    rw [s.ready_eq hf] at h
    by_cases hn : (if s.ports.nextRequest = some g then s else s.present g).ports.nextRequest = some g
    · rw [if_pos hn] at h
      obtain ⟨rfl, -⟩ := Prod.mk.inj (Option.some.inj h)
      rfl
    · rw [if_neg hn] at h
      cases h

/-- A request that is handed over is served in the state after it is taken, and its answer is sent. -/
theorem State.serve_ready {s u : State} {c : Instr} {f : Frame} (h : s.ready c = some (f, u))
    (run : Frame → State → Served) :
    s.serve c run = match (run f u).2 with
      | some a => (run f u).1.respond f a
      | none => (run f u).1 := by
  have hf := State.ready_frame h
  rw [s.ready_eq hf] at h
  by_cases hn : (if s.ports.nextRequest = some f then s else s.present f).ports.nextRequest = some f
  · rw [if_pos hn] at h
    obtain ⟨-, rfl⟩ := Prod.mk.inj (Option.some.inj h)
    simp only [State.serve, hf]
    rw [if_pos hn]
    rcases run f _ with ⟨t, _ | a⟩ <;> rfl
  · rw [if_neg hn] at h
    cases h

/-- A request that is not handed over is presented at its port and waits, or is refused there. -/
theorem State.serve_waits {s : State} {c : Instr} {f : Frame} (hf : c.frame = some f) (h : s.ready c = none)
    (run : Frame → State → Served) : s.serve c run = s.present f := by
  rw [s.ready_eq hf] at h
  by_cases hn : (if s.ports.nextRequest = some f then s else s.present f).ports.nextRequest = some f
  · rw [if_pos hn] at h
    cases h
  · simp only [State.serve, hf]
    rw [if_neg hn]
    by_cases hs : s.ports.nextRequest = some f
    · simp [hs] at hn
    · rw [if_neg hs]

/-- A management request taken outside FLUSHING has its own effect and answer. -/
theorem State.serve_host {s u : State} {c : Instr} {f : Frame} (h : s.hostTakes c f u) (own : State → State × Answer) :
    s.serve c (hostService own) = (own u).1.respond f (own u).2 := by
  obtain ⟨h, -, hm⟩ := h
  simp [State.serve_ready h, hostService, hm]

/-- A robot request that passes intake has its own effect and answer. -/
theorem State.serve_robot {s v : State} {c : Instr} {f : Frame} {n : Nat} {l : Link} {hd : Hdr} {kind : Byte}
    {body : List Byte} (hc : c.frame = some (robotFrame l hd kind body)) (h : s.robotTakes c f n v)
    (own : Nat → State → State × Answer) :
    s.serve c (robotService l hd own) = (own n v).1.respond f (own n v).2 := by
  obtain ⟨u, h, hi⟩ := h
  have hf := State.ready_frame h
  rw [hc] at hf
  obtain rfl := Option.some.inj hf
  rw [State.serve_ready h]
  by_cases hm : u.engine.mode = .run ∧ 1 ≤ hd.robot.toNat ∧ hd.robot.toNat ≤ 1023
  · unfold State.intake robotFrame at hi
    dsimp only at hi
    rw [if_pos hm] at hi
    obtain ⟨e, he, hev⟩ := Option.map_eq_some_iff.mp hi
    obtain ⟨rfl, rfl⟩ := Prod.mk.inj hev
    have h3 : ¬ (hd.robot.toNat = 0 ∨ hd.robot.toNat > 1023) := by omega
    simp [robotService, hm.1, h3, he]
  · simp [State.intake, robotFrame, hm] at hi

/-! ## Changes of one entry -/

/-- The change of a robot's entry writes the roster alone. -/
theorem State.modRobot_eq (s : State) (n : Nat) (f : Robot → Robot) :
    s.modRobot n f =
      { s with
        engine :=
          { s.engine with
            roster := match s.engine.roster.look n with
              | some r => s.engine.roster.put n (f r)
              | none => s.engine.roster } } := by
  unfold State.modRobot State.robot
  cases s.engine.roster.look n <;> rfl

/-- The change of a cell's entry writes the cells alone. -/
theorem State.modCell_eq (s : State) (n : Nat) (f : Cell → Cell) :
    s.modCell n f =
      { s with
        engine :=
          { s.engine with
            cells := match s.engine.cells.look n with
              | some c => s.engine.cells.put n (f c)
              | none => s.engine.cells } } := by
  unfold State.modCell State.cell
  cases s.engine.cells.look n <;> rfl

/-- The change of a plan writes the plans alone. -/
theorem State.modPlan_eq (s : State) (n : Nat) (f : Plan → Plan) :
    s.modPlan n f =
      { s with
        plans := match s.plans.look n with
          | some p => s.plans.put n (f p)
          | none => s.plans } := by
  unfold State.modPlan
  cases s.plans.look n <;> rfl

/-- A handle that a field resolves to names its record. -/
theorem State.recordOf_of_resolve {s : State} {raw : Half} {h : Handle} {r : Record} (hr : s.resolve raw = some (h, r)) :
    s.recordOf h = some r := by
  unfold State.resolve at hr
  split at hr
  · obtain ⟨r1, h1, h2⟩ := Option.map_eq_some_iff.mp hr
    cases h2
    exact h1
  · cases hr

/-! ## Pickup queues: nothing but the queues changes -/

theorem State.modQueues_eq (s : State) (test : Nat → Bool) (f : List PickupEntry → List PickupEntry) :
    s.modQueues test f = { s with pickup := (s.modQueues test f).pickup } := by
  simp only [State.modQueues, State.modPickup]

theorem State.enter_eq (s : State) (h : Handle) (mask : Byte) (priority : Nat) (seq : Word) :
    s.enter h mask priority seq = { s with pickup := (s.enter h mask priority seq).pickup } :=
  State.modQueues_eq s _ _

theorem State.leave_eq (s : State) (h : Handle) : s.leave h = { s with pickup := (s.leave h).pickup } :=
  State.modQueues_eq s _ _

theorem State.priorityChange_eq (s : State) (h : Handle) (priority : Nat) :
    s.priorityChange h priority = { s with pickup := (s.priorityChange h priority).pickup } :=
  State.modQueues_eq s _ _

/-- A leave reads the queues and the stage sequence counter alone. -/
theorem State.leave_pickup (s t : State) (h : Handle) (hp : s.pickup = t.pickup)
    (hc : s.engine.stageSeq = t.engine.stageSeq) : (s.leave h).pickup = (t.leave h).pickup := by
  simp only [State.leave, State.modQueues, State.modPickup, hp, hc]

/-- An enter reads the queues and the stage sequence counter alone. -/
theorem State.enter_pickup (s t : State) (h : Handle) (mask : Byte) (priority : Nat) (seq : Word)
    (hp : s.pickup = t.pickup) (hc : s.engine.stageSeq = t.engine.stageSeq) :
    (s.enter h mask priority seq).pickup = (t.enter h mask priority seq).pickup := by
  simp only [State.enter, State.modQueues, State.modPickup, hp, hc]

/-! ## Queue order -/

/-- Two entries compare by priority, then the greater age, then the lower slot (R96). -/
theorem pickupLe_iff (counter : Word) (x y : PickupEntry) :
    pickupLe counter x y = true ↔
      y.priority < x.priority ∨ (x.priority = y.priority ∧
        (seqAge counter y.seq < seqAge counter x.seq ∨
          (seqAge counter x.seq = seqAge counter y.seq ∧ x.handle.slot ≤ y.handle.slot))) := by
  simp [pickupLe]

/-- Entries of one priority whose stage sequences differ by less than 2^31 in age stand in the order of the signed difference
of their sequences, the first order of R96 (log 7). -/
theorem pickupLe_signed (counter : Word) (x y : PickupEntry) (hp : x.priority = y.priority) (hs : x.seq ≠ y.seq)
    (hx : seqAge counter x.seq < seqAge counter y.seq + 2 ^ 31) (hy : seqAge counter y.seq < seqAge counter x.seq + 2 ^ 31) :
    pickupLe counter x y = true ↔ 0 < (y.seq - x.seq).toInt := by
  have hage : seqAge counter x.seq ≠ seqAge counter y.seq := fun h => hs (by
    have := BitVec.eq_of_toNat_eq h
    bv_omega)
  rw [pickupLe_iff, BitVec.toInt_eq_toNat_cond]
  simp only [seqAge, BitVec.toNat_sub] at *
  have h1 := x.seq.isLt
  have h2 := y.seq.isLt
  have h3 := counter.isLt
  split <;> omega

/-! ## Rules, grants and passes -/

/-- What a matched rule does touches the rules and the notices alone. -/
theorem State.takeRule_eq (s : State) (m : Option (Nat × Rule)) (notice : Byte → Notice) (denied : Bool) :
    ∃ rules notices, s.takeRule m notice denied = { s with rules := rules, notices := notices } := by
  rcases m with _ | ⟨i, r⟩
  · exact ⟨_, _, rfl⟩
  · simp only [State.takeRule]
    split <;> exact ⟨_, _, rfl⟩

/-- The whole of what a grant writes (R68, R112). -/
theorem State.grant_eq (v : State) (n : Nat) (l : Link) (h : Handle) (r : Record) (spot : Spot) (e : Robot)
    (hrob : v.robot n = some e) :
    v.grant n l h r spot =
      { v.leave h with
        engine :=
          { v.engine with
            records := v.engine.records.put h.slot
              { r with
                custody := .claimed spot n
                  (if v.linkUp l then .armed (v.timer.clock + BitVec.ofNat 32 ((v.ports.robotLink l).claimWindow * 250))
                   else .held ((v.ports.robotLink l).claimWindow * 250)) }
            roster := v.engine.roster.put n { e with party := some (h, .claimant) } }
        timer :=
          { v.timer with
            list := if v.linkUp l then
                insertDeadline ⟨v.timer.clock + BitVec.ofNat 32 ((v.ports.robotLink l).claimWindow * 250), h, .claim, false⟩
                  v.timer.list
              else v.timer.list } } := by
  rw [State.leave_eq]
  unfold State.grant
  rw [State.leave_eq]
  generalize (v.leave h).pickup = pk
  have h3 : State.robot { v with pickup := pk } n = some e := hrob
  simp only [State.setParty, State.modRobot, h3]
  generalize (v.ports.robotLink l).claimWindow = w
  cases hu : v.linkUp l
  · have hu' : State.linkUp (State.putRobot { v with pickup := pk } n { e with party := some (h, .claimant) }) l = false := hu
    simp only [State.startTiming, hu', Bool.false_eq_true, if_false]
    simp only [State.putRecord, State.putRobot, State.modEngine]
  · have hu' : State.linkUp (State.putRobot { v with pickup := pk } n { e with party := some (h, .claimant) }) l = true := hu
    simp only [State.startTiming, hu', if_true]
    simp only [State.putRecord, State.putRobot, State.modEngine, State.arm, State.modTimer, wordOf]

/-- The order in which ZONE_STALE notices are posted lists each zone that turns STALE once. -/
theorem State.mem_newlyStale (s : State) (n : Nat) :
    n ∈ s.newlyStale ↔ n < 16 ∧ turnsStale s.dwell.staleLimit (s.zone n) = true := by
  unfold State.newlyStale
  rw [(List.perm_insertionSort _ _).mem_iff]
  simp [zoneNumbers]

theorem State.newlyStale_nodup (s : State) : s.newlyStale.Nodup := by
  unfold State.newlyStale
  exact ((List.perm_insertionSort _ _).nodup_iff).2 (List.Nodup.filter _ List.nodup_range)

end Sys2Proof.Machine
end

