-- ==== Sys2Proof/Laws/PerInstr.lean ====
section
/-! SUPPORT. Byte order read back, and for each command: its request frame spells it (the family RequestRoundTrip). -/

namespace Sys2Proof

/-- A two-byte field read back from its bytes. -/
@[simp] theorem half_of_be16 (x : Half) : half (x.extractLsb' 8 8) (x.extractLsb' 0 8) = x := by
  unfold half
  ext i hi
  simp only [BitVec.getElem_append, BitVec.getElem_extractLsb']
  split
  · simp [BitVec.getLsbD_eq_getElem hi]
  · rw [show 8 + (i - 8) = i by omega, BitVec.getLsbD_eq_getElem hi]

/-- A four-byte field read back from its bytes. -/
@[simp] theorem word_of_be32 (x : Word) :
    word (x.extractLsb' 24 8) (x.extractLsb' 16 8) (x.extractLsb' 8 8) (x.extractLsb' 0 8) = x := by
  unfold word half
  ext i hi
  simp only [BitVec.getElem_append, BitVec.getElem_extractLsb']
  split <;> split
  · simp [BitVec.getLsbD_eq_getElem hi]
  · rw [show 8 + (i - 8) = i by omega, BitVec.getLsbD_eq_getElem hi]
  · rw [show 16 + (i - (8 + 8)) = i by omega, BitVec.getLsbD_eq_getElem hi]
  · rw [show 24 + (i - (8 + 8) - 8) = i by omega, BitVec.getLsbD_eq_getElem hi]

/-- An eight-byte field read back from its two words. -/
@[simp] theorem quad_of_words (x : Quad) : quad (x.extractLsb' 32 32) (x.extractLsb' 0 32) = x := by
  unfold quad
  ext i hi
  simp only [BitVec.getElem_append, BitVec.getElem_extractLsb']
  split
  · simp [BitVec.getLsbD_eq_getElem hi]
  · rw [show 32 + (i - 32) = i by omega, BitVec.getLsbD_eq_getElem hi]

/-- The low four-byte field of an eight-byte one, read back from its bytes. -/
@[simp] theorem word_of_low_bytes (x : Quad) :
    word (x.extractLsb' 24 8) (x.extractLsb' 16 8) (x.extractLsb' 8 8) (x.extractLsb' 0 8) = x.extractLsb' 0 32 := by
  simpa using word_of_be32 (x.extractLsb' 0 32)

/-- The legs of a plan read back from their bytes. -/
@[simp] theorem legsOf_legBytes (legs : List (Byte × Byte)) : legsOf (legBytes legs) = some legs := by
  induction legs with
  | nil => rfl
  | cons p t ih => simp [legBytes, legsOf, ih]

end Sys2Proof

namespace Sys2Proof.Laws

/-- The request frame of a command, if it has one, spells the command. -/
def RequestRoundTrip.Statement (i : Instr) : Prop := ∀ f, i.frame = some f → f.command = some i

end Sys2Proof.Laws

namespace Sys2Proof.Laws.RequestRoundTrip

set_option Elab.async false
set_option linter.unusedSimpArgs false

theorem frameArrival (port : Port) (bytes : List Byte) : Statement (.frameArrival port bytes) := by
  intro f h
  cases h

theorem silenceTimerExpiry (l : Link) : Statement (.silenceTimerExpiry l) := by
  intro f h
  cases h

theorem declare (l : Link) (h : Hdr) (bin : Word) (cls zone plan wave priority : Byte) : Statement (.declare l h bin cls zone plan wave priority) := by
  intro f h
  cases h
  simp [Frame.command, robotFrame, robotCommand, body0, body1, body2, body21, be16, be32]

theorem book (l : Link) (h : Hdr) (handle cell receiver : Half) : Statement (.book l h handle cell receiver) := by
  intro f h
  cases h
  simp [Frame.command, robotFrame, robotCommand, body0, body1, body2, body21, be16, be32]

theorem unbook (l : Link) (h : Hdr) (handle : Half) : Statement (.unbook l h handle) := by
  intro f h
  cases h
  simp [Frame.command, robotFrame, robotCommand, body0, body1, body2, body21, be16, be32]

theorem setdown (l : Link) (h : Hdr) (handle : Half) : Statement (.setdown l h handle) := by
  intro f h
  cases h
  simp [Frame.command, robotFrame, robotCommand, body0, body1, body2, body21, be16, be32]

theorem claim (l : Link) (h : Hdr) (handle : Half) : Statement (.claim l h handle) := by
  intro f h
  cases h
  simp [Frame.command, robotFrame, robotCommand, body0, body1, body2, body21, be16, be32]

theorem seek (l : Link) (h : Hdr) : Statement (.seek l h) := by
  intro f h
  cases h
  simp [Frame.command, robotFrame, robotCommand, body0, body1, body2, body21, be16, be32]

theorem yieldBin (l : Link) (h : Hdr) (handle : Half) : Statement (.yieldBin l h handle) := by
  intro f h
  cases h
  simp [Frame.command, robotFrame, robotCommand, body0, body1, body2, body21, be16, be32]

theorem takeup (l : Link) (h : Hdr) (handle : Half) : Statement (.takeup l h handle) := by
  intro f h
  cases h
  simp [Frame.command, robotFrame, robotCommand, body0, body1, body2, body21, be16, be32]

theorem finish (l : Link) (h : Hdr) (handle : Half) (outcome : Byte) : Statement (.finish l h handle outcome) := by
  intro f h
  cases h
  simp [Frame.command, robotFrame, robotCommand, body0, body1, body2, body21, be16, be32]

theorem queryBin (l : Link) (h : Hdr) (bin : Word) : Statement (.queryBin l h bin) := by
  intro f h
  cases h
  simp [Frame.command, robotFrame, robotCommand, body0, body1, body2, body21, be16, be32]

theorem queryCell (l : Link) (h : Hdr) (cell : Half) : Statement (.queryCell l h cell) := by
  intro f h
  cases h
  simp [Frame.command, robotFrame, robotCommand, body0, body1, body2, body21, be16, be32]

theorem cellWrite (h : Hdr) (cell : Half) (config : CellBytes) : Statement (.cellWrite h cell config) := by
  intro f h
  cases h
  simp [Frame.command, hostFrame, hostCommand, body0, body1, body2, body21, body12, be16, be32, be64, CellBytes.bytes,
    ClassBytes.bytes, RuleBytes.bytes, MatchFields.bytes, MatchField.bytes]

theorem cellDelete (h : Hdr) (cell : Half) : Statement (.cellDelete h cell) := by
  intro f h
  cases h
  simp [Frame.command, hostFrame, hostCommand, body0, body1, body2, body21, body12, be16, be32, be64, CellBytes.bytes,
    ClassBytes.bytes, RuleBytes.bytes, MatchFields.bytes, MatchField.bytes]

theorem cellDrain (h : Hdr) (cell : Half) (admissions : Byte) : Statement (.cellDrain h cell admissions) := by
  intro f h
  cases h
  simp [Frame.command, hostFrame, hostCommand, body0, body1, body2, body21, body12, be16, be32, be64, CellBytes.bytes,
    ClassBytes.bytes, RuleBytes.bytes, MatchFields.bytes, MatchField.bytes]

theorem cellReopen (h : Hdr) (cell : Half) : Statement (.cellReopen h cell) := by
  intro f h
  cases h
  simp [Frame.command, hostFrame, hostCommand, body0, body1, body2, body21, body12, be16, be32, be64, CellBytes.bytes,
    ClassBytes.bytes, RuleBytes.bytes, MatchFields.bytes, MatchField.bytes]

theorem robotEnrol (h : Hdr) (robot : Half) (group : Byte) : Statement (.robotEnrol h robot group) := by
  intro f h
  cases h
  simp [Frame.command, hostFrame, hostCommand, body0, body1, body2, body21, body12, be16, be32, be64, CellBytes.bytes,
    ClassBytes.bytes, RuleBytes.bytes, MatchFields.bytes, MatchField.bytes]

theorem robotWithdraw (h : Hdr) (robot : Half) : Statement (.robotWithdraw h robot) := by
  intro f h
  cases h
  simp [Frame.command, hostFrame, hostCommand, body0, body1, body2, body21, body12, be16, be32, be64, CellBytes.bytes,
    ClassBytes.bytes, RuleBytes.bytes, MatchFields.bytes, MatchField.bytes]

theorem robotSuspend (h : Hdr) (robot : Half) : Statement (.robotSuspend h robot) := by
  intro f h
  cases h
  simp [Frame.command, hostFrame, hostCommand, body0, body1, body2, body21, body12, be16, be32, be64, CellBytes.bytes,
    ClassBytes.bytes, RuleBytes.bytes, MatchFields.bytes, MatchField.bytes]

theorem robotResume (h : Hdr) (robot : Half) : Statement (.robotResume h robot) := by
  intro f h
  cases h
  simp [Frame.command, hostFrame, hostCommand, body0, body1, body2, body21, body12, be16, be32, be64, CellBytes.bytes,
    ClassBytes.bytes, RuleBytes.bytes, MatchFields.bytes, MatchField.bytes]

theorem robotRead (h : Hdr) (robot : Half) : Statement (.robotRead h robot) := by
  intro f h
  cases h
  simp [Frame.command, hostFrame, hostCommand, body0, body1, body2, body21, body12, be16, be32, be64, CellBytes.bytes,
    ClassBytes.bytes, RuleBytes.bytes, MatchFields.bytes, MatchField.bytes]

theorem missLimit (h : Hdr) (limit : Byte) : Statement (.missLimit h limit) := by
  intro f h
  cases h
  simp [Frame.command, hostFrame, hostCommand, body0, body1, body2, body21, body12, be16, be32, be64, CellBytes.bytes,
    ClassBytes.bytes, RuleBytes.bytes, MatchFields.bytes, MatchField.bytes]

theorem planWrite (h : Hdr) (plan legCount : Byte) (legs : List (Byte × Byte)) : Statement (.planWrite h plan legCount legs) := by
  intro f h
  cases h
  simp [Frame.command, hostFrame, hostCommand, body0, body1, body2, body21, body12, be16, be32, be64, CellBytes.bytes,
    ClassBytes.bytes, RuleBytes.bytes, MatchFields.bytes, MatchField.bytes]

theorem planClear (h : Hdr) (plan : Byte) : Statement (.planClear h plan) := by
  intro f h
  cases h
  simp [Frame.command, hostFrame, hostCommand, body0, body1, body2, body21, body12, be16, be32, be64, CellBytes.bytes,
    ClassBytes.bytes, RuleBytes.bytes, MatchFields.bytes, MatchField.bytes]

theorem planRead (h : Hdr) (plan : Byte) : Statement (.planRead h plan) := by
  intro f h
  cases h
  simp [Frame.command, hostFrame, hostCommand, body0, body1, body2, body21, body12, be16, be32, be64, CellBytes.bytes,
    ClassBytes.bytes, RuleBytes.bytes, MatchFields.bytes, MatchField.bytes]

theorem classWrite (h : Hdr) (cls : Byte) (params : ClassBytes) : Statement (.classWrite h cls params) := by
  intro f h
  cases h
  simp [Frame.command, hostFrame, hostCommand, body0, body1, body2, body21, body12, be16, be32, be64, CellBytes.bytes,
    ClassBytes.bytes, RuleBytes.bytes, MatchFields.bytes, MatchField.bytes]

theorem classRead (h : Hdr) (cls : Byte) : Statement (.classRead h cls) := by
  intro f h
  cases h
  simp [Frame.command, hostFrame, hostCommand, body0, body1, body2, body21, body12, be16, be32, be64, CellBytes.bytes,
    ClassBytes.bytes, RuleBytes.bytes, MatchFields.bytes, MatchField.bytes]

theorem zoneMode (h : Hdr) (zone mode : Byte) : Statement (.zoneMode h zone mode) := by
  intro f h
  cases h
  simp [Frame.command, hostFrame, hostCommand, body0, body1, body2, body21, body12, be16, be32, be64, CellBytes.bytes,
    ClassBytes.bytes, RuleBytes.bytes, MatchFields.bytes, MatchField.bytes]

theorem zoneSense (h : Hdr) (zone : Byte) (reading : Half) : Statement (.zoneSense h zone reading) := by
  intro f h
  cases h
  simp [Frame.command, hostFrame, hostCommand, body0, body1, body2, body21, body12, be16, be32, be64, CellBytes.bytes,
    ClassBytes.bytes, RuleBytes.bytes, MatchFields.bytes, MatchField.bytes]

theorem zoneSet (h : Hdr) (zone : Byte) (temperature : Half) : Statement (.zoneSet h zone temperature) := by
  intro f h
  cases h
  simp [Frame.command, hostFrame, hostCommand, body0, body1, body2, body21, body12, be16, be32, be64, CellBytes.bytes,
    ClassBytes.bytes, RuleBytes.bytes, MatchFields.bytes, MatchField.bytes]

theorem zoneRead (h : Hdr) (zone : Byte) : Statement (.zoneRead h zone) := by
  intro f h
  cases h
  simp [Frame.command, hostFrame, hostCommand, body0, body1, body2, body21, body12, be16, be32, be64, CellBytes.bytes,
    ClassBytes.bytes, RuleBytes.bytes, MatchFields.bytes, MatchField.bytes]

theorem dwellSet (h : Hdr) (period staleLimit staleMargin : Byte) : Statement (.dwellSet h period staleLimit staleMargin) := by
  intro f h
  cases h
  simp [Frame.command, hostFrame, hostCommand, body0, body1, body2, body21, body12, be16, be32, be64, CellBytes.bytes,
    ClassBytes.bytes, RuleBytes.bytes, MatchFields.bytes, MatchField.bytes]

theorem ruleWrite (h : Hdr) (rule : RuleBytes) : Statement (.ruleWrite h rule) := by
  intro f h
  cases h
  simp [Frame.command, hostFrame, hostCommand, body0, body1, body2, body21, body12, be16, be32, be64, CellBytes.bytes,
    ClassBytes.bytes, RuleBytes.bytes, MatchFields.bytes, MatchField.bytes]

theorem ruleRead (h : Hdr) (index : Byte) : Statement (.ruleRead h index) := by
  intro f h
  cases h
  simp [Frame.command, hostFrame, hostCommand, body0, body1, body2, body21, body12, be16, be32, be64, CellBytes.bytes,
    ClassBytes.bytes, RuleBytes.bytes, MatchFields.bytes, MatchField.bytes]

theorem ruleHits (h : Hdr) (clear : Quad) : Statement (.ruleHits h clear) := by
  intro f h
  cases h
  simp [Frame.command, hostFrame, hostCommand, body0, body1, body2, body21, body12, be16, be32, be64, CellBytes.bytes,
    ClassBytes.bytes, RuleBytes.bytes, MatchFields.bytes, MatchField.bytes]

theorem linkSet (h : Hdr) (selector booking claim silence : Byte) : Statement (.linkSet h selector booking claim silence) := by
  intro f h
  cases h
  simp [Frame.command, hostFrame, hostCommand, body0, body1, body2, body21, body12, be16, be32, be64, CellBytes.bytes,
    ClassBytes.bytes, RuleBytes.bytes, MatchFields.bytes, MatchField.bytes]

theorem linkRead (h : Hdr) (selector : Byte) : Statement (.linkRead h selector) := by
  intro f h
  cases h
  simp [Frame.command, hostFrame, hostCommand, body0, body1, body2, body21, body12, be16, be32, be64, CellBytes.bytes,
    ClassBytes.bytes, RuleBytes.bytes, MatchFields.bytes, MatchField.bytes]

theorem mode (h : Hdr) (mode : Byte) : Statement (.mode h mode) := by
  intro f h
  cases h
  simp [Frame.command, hostFrame, hostCommand, body0, body1, body2, body21, body12, be16, be32, be64, CellBytes.bytes,
    ClassBytes.bytes, RuleBytes.bytes, MatchFields.bytes, MatchField.bytes]

theorem status (h : Hdr) : Statement (.status h) := by
  intro f h
  cases h
  simp [Frame.command, hostFrame, hostCommand, body0, body1, body2, body21, body12, be16, be32, be64, CellBytes.bytes,
    ClassBytes.bytes, RuleBytes.bytes, MatchFields.bytes, MatchField.bytes]

theorem lookup (h : Hdr) (selector : Byte) (value : Word) : Statement (.lookup h selector value) := by
  intro f h
  cases h
  simp [Frame.command, hostFrame, hostCommand, body0, body1, body2, body21, body12, be16, be32, be64, CellBytes.bytes,
    ClassBytes.bytes, RuleBytes.bytes, MatchFields.bytes, MatchField.bytes]

theorem scan (h : Hdr) (start : Half) (count : Byte) : Statement (.scan h start count) := by
  intro f h
  cases h
  simp [Frame.command, hostFrame, hostCommand, body0, body1, body2, body21, body12, be16, be32, be64, CellBytes.bytes,
    ClassBytes.bytes, RuleBytes.bytes, MatchFields.bytes, MatchField.bytes]

theorem retire (h : Hdr) (handle : Half) : Statement (.retire h handle) := by
  intro f h
  cases h
  simp [Frame.command, hostFrame, hostCommand, body0, body1, body2, body21, body12, be16, be32, be64, CellBytes.bytes,
    ClassBytes.bytes, RuleBytes.bytes, MatchFields.bytes, MatchField.bytes]

theorem flush (h : Hdr) : Statement (.flush h) := by
  intro f h
  cases h
  simp [Frame.command, hostFrame, hostCommand, body0, body1, body2, body21, body12, be16, be32, be64, CellBytes.bytes,
    ClassBytes.bytes, RuleBytes.bytes, MatchFields.bytes, MatchField.bytes]

theorem flushRetirement : Statement .flushRetirement := by
  intro f h
  cases h

theorem reset (h : Hdr) : Statement (.reset h) := by
  intro f h
  cases h
  simp [Frame.command, hostFrame, hostCommand, body0, body1, body2, body21, body12, be16, be32, be64, CellBytes.bytes,
    ClassBytes.bytes, RuleBytes.bytes, MatchFields.bytes, MatchField.bytes]

theorem deviceReset : Statement .deviceReset := by
  intro f h
  cases h

theorem noticeRead (h : Hdr) (queue most : Byte) : Statement (.noticeRead h queue most) := by
  intro f h
  cases h
  simp [Frame.command, hostFrame, hostCommand, body0, body1, body2, body21, body12, be16, be32, be64, CellBytes.bytes,
    ClassBytes.bytes, RuleBytes.bytes, MatchFields.bytes, MatchField.bytes]

theorem alertRead (h : Hdr) : Statement (.alertRead h) := by
  intro f h
  cases h
  simp [Frame.command, hostFrame, hostCommand, body0, body1, body2, body21, body12, be16, be32, be64, CellBytes.bytes,
    ClassBytes.bytes, RuleBytes.bytes, MatchFields.bytes, MatchField.bytes]

theorem alertMask (h : Hdr) (enabled : Byte) : Statement (.alertMask h enabled) := by
  intro f h
  cases h
  simp [Frame.command, hostFrame, hostCommand, body0, body1, body2, body21, body12, be16, be32, be64, CellBytes.bytes,
    ClassBytes.bytes, RuleBytes.bytes, MatchFields.bytes, MatchField.bytes]

theorem alertClear (h : Hdr) (sources : Byte) : Statement (.alertClear h sources) := by
  intro f h
  cases h
  simp [Frame.command, hostFrame, hostCommand, body0, body1, body2, body21, body12, be16, be32, be64, CellBytes.bytes,
    ClassBytes.bytes, RuleBytes.bytes, MatchFields.bytes, MatchField.bytes]

theorem counterMask (h : Hdr) (slot events unit : Byte) : Statement (.counterMask h slot events unit) := by
  intro f h
  cases h
  simp [Frame.command, hostFrame, hostCommand, body0, body1, body2, body21, body12, be16, be32, be64, CellBytes.bytes,
    ClassBytes.bytes, RuleBytes.bytes, MatchFields.bytes, MatchField.bytes]

theorem counterRead (h : Hdr) (zone : Byte) : Statement (.counterRead h zone) := by
  intro f h
  cases h
  simp [Frame.command, hostFrame, hostCommand, body0, body1, body2, body21, body12, be16, be32, be64, CellBytes.bytes,
    ClassBytes.bytes, RuleBytes.bytes, MatchFields.bytes, MatchField.bytes]

theorem counterClear (h : Hdr) (zone : Byte) : Statement (.counterClear h zone) := by
  intro f h
  cases h
  simp [Frame.command, hostFrame, hostCommand, body0, body1, body2, body21, body12, be16, be32, be64, CellBytes.bytes,
    ClassBytes.bytes, RuleBytes.bytes, MatchFields.bytes, MatchField.bytes]

theorem deadlineReached : Statement .deadlineReached := by
  intro f h
  cases h

theorem expiryTaken (n : Nat) : Statement (.expiryTaken n) := by
  intro f h
  cases h

theorem accrualPeriodExpiry : Statement .accrualPeriodExpiry := by
  intro f h
  cases h

theorem accrualVisit : Statement .accrualVisit := by
  intro f h
  cases h

theorem overdueEvent (n : Nat) : Statement (.overdueEvent n) := by
  intro f h
  cases h

theorem gridClockAdvance : Statement .gridClockAdvance := by
  intro f h
  cases h

end Sys2Proof.Laws.RequestRoundTrip
end

