-- ==== Sys2Proof/Tests/Slice0.lean ====
section
/-! SUPPORT. Tests. Expected values come from the manual's worked examples and tables, by hand. A `witness_…` theorem shows a
state and operands that meet the hypotheses of the statement it names, one part for each clause. -/

set_option Elab.async false

namespace Sys2Proof.Tests

open Sys2Proof Sys2Proof.Machine

/-! ## States -/

/-- A state in SETUP with two free slots. -/
def base : State := { State.reset with engine := { Engine.reset with freeSlots := [0, 9] } }

/-- The header of a request of a robot. -/
def hdr (robot : Half) : Hdr := ⟨0, 0x107, robot⟩

/-- Result and body of the last frame that has left after an outcome. -/
def answerOf (o : Host.Outcome State Fault Refusal) : Option (Byte × List Byte) :=
  match o with
  | .next t => t.sent.getLast?.map fun f => (f.flags, f.body)
  | _ => none

/-- A view of the state after an outcome. -/
def after {α : Type} (o : Host.Outcome State Fault Refusal) (view : State → α) : Option α :=
  match o with
  | .next t => some (view t)
  | _ => none

def upLink : RobotLink := ⟨true, some 2000, false, 40, 120, 8, []⟩

/-- The grid of the worked example "a two-leg relay" (chapter 3): plan 7, cells 118, 210 and 330, four robots. -/
def cell118 : Cell := ⟨1, 1, 2, 2, 1, .off, false, 4096, .opened, 0, [], 0⟩
def cell210 (stack : List Handle) (reserved : Nat) : Cell := ⟨2, 1, 2, 2, 6, .group, false, 16, .opened, 0, stack, reserved⟩
def cell330 (stack : List Handle) (reserved : Nat) : Cell := ⟨3, 1, 6, 3, 96, .combined, true, 512, .opened, 0, stack, reserved⟩
def robotOf (group : Nat) (last : Link) (party : Option (Handle × Role)) : Robot := ⟨false, group, some last, party, 0⟩

def grid (clock : Word) (records : Table Record) (cells : Table Cell) (roster : Table Robot)
    (pickup : Table (List PickupEntry)) (deadlines : List Deadline) : State :=
  { State.reset with
    ports := { PortUnit.reset with linkA := upLink, linkB := upLink }
    engine :=
      { Engine.reset with
        mode := .run
        records := records
        gens := [(57, 3)]
        freeSlots := if records.isEmpty then [57, 58] else [58]
        binIndex := records.map fun p => (p.2.bin, p.1)
        stageSeq := 8812
        cells := cells
        roster := roster }
    pickup := pickup
    timer := ⟨clock, deadlines⟩
    dwell := { DwellUnit.reset with timer := some 4000 }
    plans := [(7, ⟨[⟨4, 4⟩, ⟨9, 32⟩], records.length⟩)] }

def h57 : Handle := ⟨57, 3⟩
/-- The handle field of slot 57, generation 3 (R200). -/
def f57 : Half := 0x1839

def bin6100 (custody : Custody) (zone leg hops : Nat) : Record :=
  ⟨6100, .frozen, 30, 1, 5, zone, some ⟨7, leg⟩, hops, 2, 0, 12000, false, false, false, false, 1200000, custody⟩

def spot210 : Spot := ⟨12, 210, 8812, 4, none⟩
def spot330 : Spot := ⟨40, 330, 8840, 32, some 55⟩

def empty : State :=
  grid 1200000 [] [(118, cell118), (210, cell210 [] 0), (330, cell330 [] 0)] [(12, robotOf 1 .a none), (40, robotOf 2 .b none)] [] []
def carried : State :=
  grid 1204000 [(57, bin6100 (.carried 12 none) 5 0 0)] [(118, cell118), (210, cell210 [] 0), (330, cell330 [] 0)]
    [(12, robotOf 1 .a (some (h57, .carrier))), (40, robotOf 2 .b none)] [] []
def booked : State :=
  grid 1209000 [(57, bin6100 (.booked 12 210 none none (.armed 1214000)) 5 0 0)] [(210, cell210 [] 1), (330, cell330 [] 0)]
    [(12, robotOf 1 .a (some (h57, .carrier))), (40, robotOf 2 .b none)] [] [⟨1214000, h57, .booking, false⟩]
def staged : State :=
  grid 1215000 [(57, bin6100 (.staged spot210 none) 2 0 0)] [(210, cell210 [h57] 0)]
    [(12, robotOf 1 .a none), (40, robotOf 2 .b none)] [(2, [⟨h57, 1, 8812⟩])] []
def claimed : State :=
  grid 1228000 [(57, bin6100 (.claimed spot210 40 (.armed 1245000)) 2 0 0)] [(210, cell210 [h57] 0)]
    [(12, robotOf 1 .a none), (40, robotOf 2 .b (some (h57, .claimant)))] [] [⟨1245000, h57, .claim, false⟩]
def designated : State :=
  grid 1247500 [(57, bin6100 (.staged spot330 none) 6 1 1)] [(330, cell330 [h57] 0)]
    [(55, robotOf 5 .b none), (61, robotOf 5 .a none)] [(5, [⟨h57, 1, 8840⟩])] []

/-! ## Well-formedness: a PLAN-WRITE of no legs or of nine is refused, one of one or of eight is not (R203) -/

def leg : Byte × Byte := (1, 1)
theorem test_wellFormed_no_leg : Instr.wellFormed (.planWrite (hdr 0) 7 0 []) = false := by decide
theorem test_wellFormed_nine_legs :
    Instr.wellFormed (.planWrite (hdr 0) 7 9 [leg, leg, leg, leg, leg, leg, leg, leg, leg]) = false := by decide
theorem test_wellFormed_one_leg : Instr.wellFormed (.planWrite (hdr 0) 7 1 [leg]) = true := by decide
theorem test_wellFormed_eight_legs :
    Instr.wellFormed (.planWrite (hdr 0) 7 8 [leg, leg, leg, leg, leg, leg, leg, leg]) = true := by decide

/-! ## Frames -/

/-- The check of the digits 1 to 9 with this polynomial and initial value is 0x29B1, its well-known check value (R189). -/
theorem test_crc_digits : crc [0x31, 0x32, 0x33, 0x34, 0x35, 0x36, 0x37, 0x38, 0x39] = 0x29B1#16 := by decide +kernel
/-- A SEEK of robot 40 with tag 0x0107 and the concentrator-alert bit set (worked example, chapter 10). -/
def seek40 : Frame := ⟨.link .a, 0x06, 1, 0x0107, 40, []⟩
theorem test_frame_bytes : seek40.checked = [0x06, 0x01, 0x01, 0x07, 0x00, 0x28, 0x00, 0x00] := by decide
theorem test_frame_command : seek40.command = some (.seek .a ⟨1, 0x0107, 40⟩) := by decide
theorem test_no_table_word : decodeTableWord 16 0x1234 = none := rfl

/-! ## Robot requests: the worked example "a two-leg relay" and its neighbours -/

theorem test_declare :
    answerOf (exec (.declare .a (hdr 12) 6100 2 5 7 30 1) empty) = some (0, [0x18, 0x39, 1, 2, 0x2E, 0xE0]) := by decide +kernel
theorem test_declare_opens :
    after (exec (.declare .a (hdr 12) 6100 2 5 7 30 1) empty) (fun t => t.engine.records) =
      some [(57, bin6100 (.carried 12 none) 5 0 0)] := by decide +kernel
theorem test_book_not_in_leg : answerOf (exec (.book .a (hdr 12) f57 118 0) carried) = some (19, []) := by decide +kernel
theorem test_book :
    answerOf (exec (.book .a (hdr 12) f57 210 0) carried) = some (0, [0x18, 0x39, 0, 210, 0, 40, 0]) := by decide +kernel
theorem test_unbook : answerOf (exec (.unbook .a (hdr 12) f57) booked) = some (0, [0x18, 0x39, 0]) := by decide +kernel
theorem test_setdown :
    answerOf (exec (.setdown .a (hdr 12) f57) booked) = some (0, [0x18, 0x39, 0, 4, 0, 0, 0x22, 0x6C]) := by decide +kernel
theorem test_setdown_queue :
    after (exec (.setdown .a (hdr 12) f57) booked) (fun t => t.pickup) = some [(2, [⟨h57, 1, 8812⟩])] := by decide +kernel
theorem test_seek : answerOf (exec (.seek .b (hdr 40)) staged) =
    some (0, [0x18, 0x39, 0, 0, 0x17, 0xD4, 0, 210, 0, 120, 0]) := by decide +kernel
theorem test_takeup : answerOf (exec (.takeup .b (hdr 40) f57) claimed) =
    some (0, [0x18, 0x39, 1, 2, 1, 9, 0x2E, 0xE0]) := by decide +kernel
theorem test_yield : answerOf (exec (.yieldBin .b (hdr 40) f57) claimed) = some (0, [0x18, 0x39, 0]) := by decide +kernel
theorem test_claim_custody : answerOf (exec (.claim .a (hdr 61) f57) designated) = some (24, []) := by decide +kernel
theorem test_claim_custody_notice :
    after (exec (.claim .a (hdr 61) f57) designated) (fun t => t.notices.custody.items) =
      some [⟨.custodyRefused, 1247500, some h57, some 6100, some 61, some 330, some 6, 3⟩] := by decide +kernel
theorem test_seek_designation : answerOf (exec (.seek .a (hdr 61)) designated) = some (1, []) := by decide +kernel
theorem test_finish : answerOf (exec (.finish .a (hdr 12) f57 0) carried) =
    some (0, [0x18, 0x39, 0, 0, 0, 0, 0]) := by decide +kernel
theorem test_finish_frees : after (exec (.finish .a (hdr 12) f57 0) carried)
    (fun t => (t.engine.freeSlots, t.generation 57, t.engine.binIndex, t.plans.look 7)) =
      some ([58, 57], 4, [], some ⟨[⟨4, 4⟩, ⟨9, 32⟩], 0⟩) := by decide +kernel
theorem test_queryBin : answerOf (exec (.queryBin .a (hdr 12) 6100) carried) =
    some (0, [0x18, 0x39, 0, 0xFF, 0xFF, 255, 1, 0x2E, 0xE0, 0, 0, 0, 0, 0]) := by decide +kernel
theorem test_queryCell : answerOf (exec (.queryCell .b (hdr 40) 210) staged) =
    some (0, [0, 2, 0, 0, 1, 0x18, 0x39, 0, 0, 0x17, 0xD4, 2, 1]) := by decide +kernel

/-! ## Management requests -/

def cfg : CellBytes := ⟨127, 127, 15, 4, 6, 3, 1, 0⟩
theorem test_cellWrite : answerOf (exec (.cellWrite (hdr 0) 1023 cfg) base) = some (0, [3, 255, 1, 0, 4, 0, 0, 0]) := by decide +kernel
theorem test_cellWrite_duplicate :
    answerOf (exec (.cellWrite (hdr 0) 118 { cfg with column := 2, row := 1 }) empty) =
      some (13, [0, 118, 1, 0, 2, 0, 0, 0]) := by decide +kernel
theorem test_cellDelete : answerOf (exec (.cellDelete (hdr 0) 118) empty) = some (0, [0, 118, 0, 0, 0, 0, 0, 0]) := by decide +kernel
theorem test_cellDelete_busy : answerOf (exec (.cellDelete (hdr 0) 210) staged) = some (27, [0, 210, 1, 0, 2, 1, 0, 0]) := by
  decide +kernel
theorem test_cellDrain_closes : answerOf (exec (.cellDrain (hdr 0) 118 0) empty) = some (0, [0, 118, 1, 2, 2, 0, 0, 0]) := by
  decide +kernel
theorem test_cellDrain_fifteen : answerOf (exec (.cellDrain (hdr 0) 118 15) empty) = some (0, [0, 118, 1, 1, 2, 0, 0, 15]) := by
  decide +kernel
theorem test_cellReopen_open : answerOf (exec (.cellReopen (hdr 0) 118) empty) = some (12, [0, 118, 1, 0, 2, 0, 0, 0]) := by
  decide +kernel
theorem test_robotEnrol : (answerOf (exec (.robotEnrol (hdr 0) 1023 7) base)).map (fun p => (p.1, p.2.take 8)) =
    some (0, [3, 255, 1, 7, 255, 255, 255, 255]) := by decide +kernel
theorem test_robotWithdraw_party : answerOf (exec (.robotWithdraw (hdr 0) 40) claimed) =
    some (29, [0, 40, 1, 2, 1, 0x18, 0x39, 1, 3, 0, 0, 3]) := by decide +kernel
theorem test_robotSuspend : answerOf (exec (.robotSuspend (hdr 0) 40) claimed) =
    some (0, [0, 40, 2, 2, 1, 0x18, 0x39, 1, 3, 0, 0, 3]) := by decide +kernel
theorem test_robotResume_unknown : (answerOf (exec (.robotResume (hdr 0) 41) claimed)).map (fun p => (p.1, p.2.take 4)) =
    some (7, [0, 41, 0, 0]) := by decide +kernel
theorem test_robotRead : answerOf (exec (.robotRead (hdr 0) 12) carried) =
    some (0, [0, 12, 1, 1, 0, 0x18, 0x39, 0, 0, 0, 0, 3]) := by decide +kernel
theorem test_missLimit : answerOf (exec (.missLimit (hdr 0) 7) base) = some (0, [3, 7]) := by decide +kernel
theorem test_planWrite_in_use : answerOf (exec (.planWrite (hdr 0) 7 1 [leg]) carried) =
    some (28, [7, 1, 0, 1, 4, 4, 9, 32]) := by decide +kernel
theorem test_planWrite_count : answerOf (exec (.planWrite (hdr 0) 8 2 [leg]) base) = some (5, []) := by decide +kernel
theorem test_planClear : answerOf (exec (.planClear (hdr 0) 7) empty) = some (0, [7, 0, 0, 0]) := by decide +kernel
theorem test_planRead : answerOf (exec (.planRead (hdr 0) 7) empty) = some (0, [7, 1, 0, 0, 4, 4, 9, 32]) := by decide +kernel
theorem test_classWrite : answerOf (exec (.classWrite (hdr 0) 2 ⟨0xDC, 24, 2, 12000, 6, 240⟩) base) =
    some (0, [2, 0xDC, 24, 2, 0x2E, 0xE0, 6, 240]) := by decide +kernel
theorem test_classRead : answerOf (exec (.classRead (hdr 0) 1) base) = some (0, [1, 10, 8, 1, 0x9C, 0x40, 6, 255]) := by
  decide +kernel
/-- After reset a zone is at 20.0 °C, stale, with an effective 22.0 °C (R152). -/
theorem test_zoneRead : answerOf (exec (.zoneRead (hdr 0) 15) base) = some (0, [15, 40, 0, 15, 1, 44]) := by decide +kernel
theorem test_zoneSense_clamps : answerOf (exec (.zoneSense (hdr 0) 5 0x8000) base) = some (0, [5, 0x88, 0, 0, 0, 0x88]) := by
  decide +kernel
theorem test_zoneSet_sensor : answerOf (exec (.zoneSet (hdr 0) 5 16) base) = some (26, [5, 40, 0, 15, 1, 44]) := by decide +kernel
theorem test_zoneMode_manual : answerOf (exec (.zoneMode (hdr 0) 5 1) base) = some (0, [5, 40, 1, 15, 0, 40]) := by decide +kernel
theorem test_dwellSet : answerOf (exec (.dwellSet (hdr 0) 60 15 20) base) = some (0, [60, 15, 20]) := by decide +kernel
def anyField : MatchField := ⟨0, 0⟩
def ruleNine : RuleBytes :=
  ⟨9, 1, ⟨⟨1, 1⟩, ⟨2, 3⟩, anyField, anyField, ⟨8, 12⟩, anyField, anyField, anyField, anyField⟩, 2, 64, 1, 3⟩
theorem test_ruleWrite : answerOf (exec (.ruleWrite (hdr 0) ruleNine) base) =
    some (0, [9, 1, 1, 1, 2, 3, 0, 0, 0, 0, 8, 12, 0, 0, 0, 0, 0, 0, 0, 0, 2, 64, 1, 3, 0]) := by decide +kernel
theorem test_ruleWrite_width : answerOf (exec (.ruleWrite (hdr 0) { ruleNine with
    fields := { ruleNine.fields with cls := ⟨4, 4⟩ } }) base) = some (5, []) := by decide +kernel
theorem test_ruleRead_last : (answerOf (exec (.ruleRead (hdr 0) 63) base)).map (fun p => p.2.length) = some 25 := by decide +kernel
theorem test_ruleRead_past : answerOf (exec (.ruleRead (hdr 0) 64) base) = some (5, []) := by decide +kernel
theorem test_linkSet_bounds : answerOf (exec (.linkSet (hdr 0) 2 0 255 41) base) = some (0, [1, 0, 0, 1, 255, 40]) := by decide +kernel
theorem test_linkRead : answerOf (exec (.linkRead (hdr 0) 0) base) = some (0, [0, 0, 0, 40, 120, 8]) := by decide +kernel
theorem test_mode_run : answerOf (exec (.mode (hdr 0) 1) base) = some (0, [1]) := by decide +kernel
theorem test_mode_not_empty : answerOf (exec (.mode (hdr 0) 0) carried) = some (30, [1]) := by decide +kernel
theorem test_status : answerOf (exec (.status (hdr 0)) carried) =
    some (0, [1, 0, 1, 7, 255, 0, 0x12, 0x5F, 0x20, 1, 1, 0, 0, 0, 0, 0, 0]) := by decide +kernel
theorem test_lookup : answerOf (exec (.lookup (hdr 0) 1 0x1839) staged) =
    some (0, [0x18, 0x39, 0, 0, 0x17, 0xD4, 2, 2, 30, 1, 0x52, 0, 0, 0, 0, 12, 0, 0, 0, 0, 0, 210, 0, 4, 0, 7, 0, 0x02, 0, 0,
      0x2E, 0xE0, 0, 0, 0x22, 0x6C, 0, 0, 0, 0, 0, 0x12, 0x4F, 0x80]) := by decide +kernel
theorem test_lookup_high_bit : answerOf (exec (.lookup (hdr 0) 1 0x9839) staged) = some (1, []) := by decide +kernel
theorem test_scan_end : after (exec (.scan (hdr 0) 57 1) carried) (fun t => t.sent.map fun f => (f.robot, f.body.take 3)) =
    some [(0x0002, [0, 58, 1]), (0x0102, [0x18, 0x39, 0])] := by decide +kernel
theorem test_scan_none : answerOf (exec (.scan (hdr 0) 58 8) carried) = some (0, [8, 0, 0]) := by decide +kernel
theorem test_retire : answerOf (exec (.retire (hdr 0) f57) booked) = some (0, [0x18, 0x39, 1]) := by decide +kernel
theorem test_flush_begins : after (exec (.flush (hdr 0)) booked) (fun t => (t.engine.mode, t.dwell.timer, t.sent)) =
    some (.flushing, none, []) := by decide +kernel
def flushing : State := { booked with engine := { booked.engine with mode := .flushing, flush := some ⟨hostFrame (hdr 0) 0x25 [], 6⟩ } }
theorem test_flushRetirement : answerOf (exec .flushRetirement flushing) = some (0, [0, 7]) := by decide +kernel
theorem test_flush_busy : after (exec (.missLimit (hdr 0) 1) flushing) (fun t => t.ports.unsent.map fun f => f.flags) =
    some [2] := by decide +kernel
/-- RESET in RUN: its reply has left, and every block is as after a device reset (R211). -/
theorem test_reset : after (exec (.reset (hdr 0)) carried)
    (fun t => (t.sent, decide ({ t with sent := [] } = State.reset))) =
      some ([⟨.host, 0xA6, 0, 0x107, 1, []⟩], true) := by decide +kernel
/-- Sequences 0 and 0x80000005 lie 2^31 or more apart: the greater age first, which their signed difference would put last
(R96). -/
theorem test_queue_age : sortPickup 0x80000006 [⟨⟨1, 0⟩, 1, 0x80000005⟩, ⟨⟨2, 0⟩, 1, 0⟩] =
    [⟨⟨2, 0⟩, 1, 0⟩, ⟨⟨1, 0⟩, 1, 0x80000005⟩] := by decide +kernel
theorem test_deviceReset : after (exec .deviceReset carried) (fun t => (t.engine.mode, t.engine.records, t.timer.clock)) =
    some (.setup, [], 0) := by decide +kernel
theorem test_gridClock_wraps : after (exec .gridClockAdvance { base with timer := ⟨0xFFFFFFFF, []⟩ }) (fun t => t.timer.clock) =
    some 0 := by decide +kernel

/-! ## Notices, alerts, counters: the worked example "a full queue and the alert line" (chapter 11) -/

def someNotice : Notice := ⟨.dwellWarn, 5, none, none, none, none, some 5, 2⟩
def full (n : Nat) : State :=
  { base with
    notices :=
      { base.notices with
        thermal := ⟨List.replicate n someNotice, false⟩
        enabled := 3
        slots := [(2, ⟨128, true⟩)] } }
theorem test_post_full : ((full 64).post .thermal someNotice).notices.thermal = ⟨List.replicate 64 someNotice, true⟩ := by
  decide +kernel
theorem test_noticeRead : after (exec (.noticeRead (hdr 0) 2 4) (full 64)) (fun t => t.sent.map fun f => (f.robot, f.body.take 3)) =
    some [(0x0005, [4, 60, 0]), (0x0105, [6, 0, 0]), (0x0205, [6, 0, 0]), (0x0305, [6, 0, 0]), (0x0405, [6, 0, 0])] := by
  decide +kernel
theorem test_alertRead : answerOf (exec (.alertRead (hdr 0)) (full 1)) = some (0, [1, 2, 0, 3]) := by decide +kernel
theorem test_alertMask_bit6 : answerOf (exec (.alertMask (hdr 0) 64) base) = some (5, []) := by decide +kernel
theorem test_alertClear : answerOf (exec (.alertClear (hdr 0) 2) ((full 64).post .thermal someNotice)) = some (0, [2, 0, 3]) := by
  decide +kernel
theorem test_counterMask : answerOf (exec (.counterMask (hdr 0) 3 255 1) base) = some (0, [3, 255, 1]) := by decide +kernel
theorem test_counterRead : answerOf (exec (.counterRead (hdr 0) 5) ((full 0).countEvent .accrual 5 1016)) =
    some (0, [5, 0, 0, 0, 0, 0, 0, 0, 0, 0, 0, 3, 0xF8, 0, 0, 0, 0]) := by decide +kernel
theorem test_counterClear : after (exec (.counterClear (hdr 0) 5) ((full 0).countEvent .accrual 5 1016)) (fun t => t.notices.counters) =
    some [] := by decide +kernel

/-! ## Events: the worked examples of accrual, of the rescue switch, of a hold, and of misses -/

/-- Zone 5 is in MANUAL mode at T = 16; the pass stands at slot 57. -/
def warm (exposure : Nat) (custody : Custody) : State :=
  let s := grid 0 [(57, { bin6100 custody 5 0 0 with exposure := exposure })] [(210, cell210 [h57] 0)] [] [] []
  { s with dwell := { s.dwell with zones := [(5, ⟨16, false, 0, false⟩)], cursor := some 57 } }
theorem test_visit_accrues : after (exec .accrualVisit (warm 8128 (.carried 12 none)))
    (fun t => (t.engine.records.map fun p => (p.2.exposure, p.2.warned), t.notices.thermal.items.map (·.kind), t.dwell.cursor)) =
      some ([(9144, true)], [.dwellWarn], some 58) := by decide +kernel
theorem test_visit_overdue : after (exec .accrualVisit (warm 11176 (.carried 12 none)))
    (fun t => (t.engine.records.map fun p => (p.2.exposure, p.2.overdue), t.engine.overdues)) =
      some ([(12192, true)], [h57]) := by decide +kernel
theorem test_pass_start : after (exec .accrualPeriodExpiry { base with dwell := { base.dwell with timer := some 0 } })
    (fun t => (t.dwell.timer, t.dwell.cursor)) = some (some 4000, some 0) := by decide +kernel
theorem test_silence : after (exec (.silenceTimerExpiry .a)
    { booked with ports := { booked.ports with linkA := { upLink with silence := some 0 } }, timer := { booked.timer with clock := 1210000 } })
    (fun t => (t.engine.records.map fun p => p.2.custody.timing, t.timer.list, t.notices.linkEdge)) =
      some ([some (.held 4000)], [], ⟨true, false⟩) := by decide +kernel
theorem test_link_up_rearms : after (exec (.frameArrival (.link .a) (Frame.bytes ⟨.link .a, 0, 1, 0, 0, []⟩))
    { booked with
      ports := { booked.ports with linkA := RobotLink.reset }
      timer := ⟨1220000, []⟩
      engine :=
        { booked.engine with
          records := [(57, bin6100 (.booked 12 210 none none (.held 4000)) 5 0 0)] } })
    (fun t => (t.timer.list, (t.ports.robotLink .a).mirror)) = some ([⟨1224000, h57, .booking, false⟩], true) := by decide +kernel
theorem test_deadlineReached : after (exec .deadlineReached { claimed with timer := { claimed.timer with clock := 1245000 } })
    (fun t => t.engine.expiries) = some [⟨h57, .claim, 1245000⟩] := by decide +kernel
def missed : State :=
  { claimed with
    engine :=
      { claimed.engine with
        roster := [(40, { robotOf 2 .b (some (h57, .claimant)) with misses := 2 })]
        expiries := [⟨h57, .claim, 1245000⟩] } }
theorem test_third_miss_suspends : after (exec (.expiryTaken 0) missed)
    (fun t => (t.robot 40, t.notices.custody.items.map fun n => (n.kind, n.detail))) =
      some (some ⟨true, 2, some .b, none, 3⟩, [(.robotSuspended, 3)]) := by decide +kernel
theorem test_booking_lapse : after (exec (.expiryTaken 0)
    { booked with engine := { booked.engine with expiries := [⟨h57, .booking, 1214000⟩] } })
    (fun t => (t.engine.records.map fun p => p.2.custody, t.timer.list)) = some ([.carried 12 (some 12)], []) := by decide +kernel
/-- Bin 6230 on cell 612: free relay, hops 2 of 6, overdue; FROZEN names plan 240 (worked example, chapter 6). -/
def rescue (plans : Table Plan) : State :=
  { State.reset with
    engine :=
      { Engine.reset with
        mode := .run
        records := [(812, ⟨6230, .frozen, 0, 1, 9, 9, none, 2, 6, 12916, 12000, true, true, false, false, 0,
          .staged ⟨90, 612, 9000, 10, none⟩ none⟩)]
        gens := [(812, 5)]
        freeSlots := []
        binIndex := [(6230, 812)]
        cells := [(612, ⟨0, 0, 9, 4, 10, .group, false, 4, .opened, 0, [⟨812, 5⟩], 0⟩)]
        overdues := [⟨812, 5⟩] }
    pickup := [(1, [⟨⟨812, 5⟩, 1, 9000⟩]), (3, [⟨⟨812, 5⟩, 1, 9000⟩])]
    dwell := { DwellUnit.reset with frozen := ⟨-36, 24, 2, 12000, 6, some 240⟩, timer := some 4000 }
    plans := plans }
def plan240 : Table Plan := [(240, ⟨[⟨20, 128⟩, ⟨21, 1⟩], 0⟩)]
theorem test_rescue_switch : after (exec (.overdueEvent 0) (rescue plan240))
    (fun t => (t.engine.records.map fun p => (p.2.route, p.2.hopLimit), t.pickup)) =
      some ([(some ⟨240, 0⟩, 4)], [(7, [⟨⟨812, 5⟩, 3, 9000⟩])]) := by decide +kernel
theorem test_rescue_unavailable : after (exec (.overdueEvent 0) (rescue []))
    (fun t => (t.pickup, t.notices.thermal.items.map fun n => (n.kind, n.detail))) =
      some ([(1, [⟨⟨812, 5⟩, 3, 9000⟩]), (3, [⟨⟨812, 5⟩, 3, 9000⟩])], [(.rescueUnavailable, 240)]) := by decide +kernel
/-- Priority 2 stands before priority 1, and within a priority the older stage sequence first (worked example, chapter 5). -/
theorem test_queue_order :
    sortPickup 505 [⟨⟨105, 0⟩, 0, 430⟩, ⟨⟨104, 2⟩, 1, 495⟩, ⟨⟨103, 0⟩, 1, 470⟩, ⟨⟨101, 0⟩, 2, 500⟩, ⟨⟨102, 1⟩, 2, 488⟩] =
      [⟨⟨102, 1⟩, 2, 488⟩, ⟨⟨101, 0⟩, 2, 500⟩, ⟨⟨103, 0⟩, 1, 470⟩, ⟨⟨104, 2⟩, 1, 495⟩, ⟨⟨105, 0⟩, 0, 430⟩] := by decide +kernel
theorem test_budget_scales :
    [scaledBudget 1 .halved, scaledBudget 12000 .two, scaledBudget 40000 .two] = [1, 24000, 65535] := by decide

/-! ## Witnesses. `Hosts s c P`: the management request c is handed over in s, and P holds of the state in which it is
served. `Robots s c P`: the robot request c passes intake, and P holds of the robot's number and the state after. -/

def Hosts (s : State) (c : Instr) (P : State → Prop) : Prop := ∃ f u, s.hostTakes c f u ∧ P u
def Robots (s : State) (c : Instr) (P : Nat → State → Prop) : Prop := ∃ f n v, s.robotTakes c f n v ∧ P n v

theorem hosts {s : State} {c : Instr} {P : State → Prop} [∀ u, Decidable (P u)]
    (h : (match s.ready c with
      | some (f, u) => decide (f.port = .host ∧ u.engine.mode ≠ .flushing ∧ P u)
      | none => false) = true) : Hosts s c P := by
  split at h
  · next f u e => have h := of_decide_eq_true h; exact ⟨f, u, ⟨e, h.1, h.2.1⟩, h.2.2⟩
  · cases h

theorem robots {s : State} {c : Instr} {P : Nat → State → Prop} [∀ n v, Decidable (P n v)]
    (h : (match s.ready c with
      | some (f, u) => match u.intake f with
        | some (n, v) => decide (P n v)
        | none => false
      | none => false) = true) : Robots s c P := by
  split at h
  · next f u e =>
    split at h
    · next n v e1 => exact ⟨f, n, v, ⟨u, e, e1⟩, of_decide_eq_true h⟩
    · cases h
  · cases h

/-! ### A state that meets the laws: a CARRIED, a BOOKED and a STAGED record, before an accrual visit of slot 0 -/

def exposed (exposure : Nat) (warned : Bool) : Record :=
  { bin6100 (.carried 12 none) 5 0 0 with exposure := exposure, warned := warned }
def bookedOne : Record := { bin6100 (.booked 13 210 none none (.armed 5000)) 5 0 0 with bin := 6101 }
def stagedTwo : Record := { bin6100 (.staged spot210 none) 2 0 0 with bin := 6102 }
def visiting : State :=
  { State.reset with
    pending := [.accrualVisit]
    ports := { PortUnit.reset with linkA := upLink }
    engine :=
      { Engine.reset with
        mode := .run
        records := [(0, exposed 8128 false), (1, bookedOne), (2, stagedTwo)]
        freeSlots := List.range' 3 2045
        binIndex := [(6100, 0), (6101, 1), (6102, 2)]
        stageSeq := 8813
        cells := [(210, cell210 [⟨2, 0⟩] 1)]
        roster := [(12, robotOf 1 .a (some (⟨0, 0⟩, .carrier))), (13, robotOf 1 .a (some (⟨1, 0⟩, .carrier)))] }
    pickup := [(2, [⟨⟨2, 0⟩, 1, 8812⟩])]
    timer := ⟨1000, [⟨5000, ⟨1, 0⟩, .booking, false⟩]⟩
    plans := [(7, ⟨[⟨4, 4⟩, ⟨9, 32⟩], 3⟩)]
    dwell := { DwellUnit.reset with zones := [(5, ⟨16, false, 0, false⟩)], timer := some 4000, cursor := some 0 } }

theorem visiting_look (n : Nat) (r : Record) : visiting.engine.records.look n = some r ↔
    (n = 0 ∧ r = exposed 8128 false) ∨ (n = 1 ∧ r = bookedOne) ∨ (n = 2 ∧ r = stagedTwo) := by
  simp only [visiting, Table.look]
  grind

theorem visiting_recordOf (h : Handle) (r : Record) : visiting.recordOf h = some r ↔
    (h = ⟨0, 0⟩ ∧ r = exposed 8128 false) ∨ (h = ⟨1, 0⟩ ∧ r = bookedOne) ∨ (h = ⟨2, 0⟩ ∧ r = stagedTwo) := by
  obtain ⟨slot, gen⟩ := h
  have hg : visiting.generation slot = 0 := rfl
  simp only [State.recordOf, hg, Handle.mk.injEq]
  have := visiting_look slot r
  grind

theorem visiting_record (h : Handle) (P : Record → Prop) : (∃ r, visiting.recordOf h = some r ∧ P r) ↔
    (h = ⟨0, 0⟩ ∧ P (exposed 8128 false)) ∨ (h = ⟨1, 0⟩ ∧ P bookedOne) ∨ (h = ⟨2, 0⟩ ∧ P stagedTwo) := by
  simp only [visiting_recordOf]
  grind

theorem visiting_bins (b n : Nat) : visiting.engine.binIndex.look b = some n ↔
    (b = 6100 ∧ n = 0) ∨ (b = 6101 ∧ n = 1) ∨ (b = 6102 ∧ n = 2) := by
  simp only [visiting, Table.look]
  grind

theorem witness_visiting_slotLaw : visiting.slotLaw := by
  refine ⟨by decide, by decide, by decide, by decide, by decide, List.nodup_range', fun n => ?_, fun b n => ?_, fun b n h => ?_⟩
  · simp only [visiting, Table.look, Config.slots, List.mem_range'_1]
    grind
  · simp only [visiting_bins, visiting_look]
    grind [exposed, bookedOne, stagedTwo, bin6100]
  · rw [visiting_bins] at h
    omega

theorem witness_visiting_recordLaw : visiting.recordLaw := by
  refine ⟨by unfold Record.exposureLaw Record.hopLaw; decide, by decide, by rintro (_ | _ | _) <;> decide, by decide⟩

theorem witness_visiting_planLaw : visiting.planLaw := by
  refine ⟨fun k p h => ?_, by simp [visiting, exposed, bookedOne, stagedTwo, bin6100, Table.look]⟩
  simp only [visiting, Table.look] at h
  split at h
  · next e => subst e; cases h; decide
  · cases h

theorem witness_visiting_partyLaw : visiting.partyLaw := by
  refine ⟨fun n e he h role => ?_, ?_⟩
  · simp only [State.robot, visiting, Table.look] at he
    rw [visiting_record]
    grind [exposed, bookedOne, stagedTwo, bin6100, robotOf, Custody.partyRole]
  · simp [visiting, exposed, bookedOne, stagedTwo, bin6100, State.robot, Table.look, Custody.party]

theorem witness_visiting_cellLaw : visiting.cellLaw := by
  refine ⟨fun n c hc => ?_, ?_⟩
  · simp only [State.cell, visiting, Table.look] at hc
    split at hc
    · next e =>
      subst e; cases hc
      refine ⟨by decide, fun h => ?_, fun h r hr hs => ?_, by decide, by decide, by decide, by decide⟩
      · simp only [exists_and_left]
        rw [visiting_record]
        simp [exposed, bookedOne, stagedTwo, bin6100, spot210, cell210, Custody.spot]
      · simp [cell210, eq_comm]
    · cases hc
  · simp [visiting, exposed, bookedOne, stagedTwo, bin6100, State.cell, Table.look, Custody.cell, spot210]

theorem witness_visiting_queueLaw : visiting.queueLaw := by
  intro g hg
  refine ⟨by revert g; decide, by revert g; decide, fun e => ?_⟩
  simp only [exists_and_left]
  rw [visiting_record]
  have hm : (4 : Byte).getLsbD g = decide (g = 2) := by revert g; decide
  obtain ⟨h, priority, seq⟩ := e
  simp [State.queueOf, visiting, exposed, bookedOne, stagedTwo, bin6100, spot210, cell210, State.cellTop, State.cell,
    Table.look, Table.lookD]
  grind

theorem witness_visiting_deadlineLaw : visiting.deadlineLaw := by
  refine ⟨by decide, fun h d kind => ?_, ?_⟩
  · rw [visiting_record]
    simp [visiting, exposed, bookedOne, stagedTwo, bin6100, Custody.timing, Record.deadlineKind]
    grind
  · simp [visiting, exposed, bookedOne, stagedTwo, bin6100, Custody.timing, Custody.party, State.robot, Table.look,
      robotOf, State.linkUp, PortUnit.robotLink, upLink, Record.isArmed]

theorem witness_visiting_modeLaw : visiting.modeLaw := by
  refine ⟨by decide, by decide, by decide, by decide, by decide, fun _ h => by cases h⟩

theorem witness_visiting_boundsLaw : visiting.boundsLaw := by
  refine ⟨by decide, by decide, by decide, by decide, by unfold RobotLink.law; decide, by unfold RobotLink.law; decide,
    by unfold Zone.law; decide, by rintro (⟨_ | _⟩ | _) <;> decide, by rintro (_ | _ | _ | _) <;> decide⟩

theorem witness_visiting_laws : visiting.laws :=
  ⟨witness_visiting_slotLaw, witness_visiting_recordLaw, witness_visiting_planLaw,
    ⟨by decide, by decide, by decide, by simp [visiting, exposed, bookedOne, stagedTwo, bin6100, spot210, Custody.spot]⟩,
    witness_visiting_partyLaw, witness_visiting_cellLaw, witness_visiting_queueLaw, witness_visiting_deadlineLaw,
    witness_visiting_modeLaw, witness_visiting_boundsLaw⟩

/-! ### Frames, queues and replies -/

theorem witness_StepRunsFrontCommand :
    { base with pending := [.gridClockAdvance, .deviceReset] }.pending = .gridClockAdvance :: [.deviceReset] ∧ base.pending = [] :=
  ⟨rfl, rfl⟩

def eightLegs : Instr := .planWrite (hdr 0) 254 8 [leg, leg, leg, leg, leg, leg, leg, leg]
theorem witness_RequestBytesGiveCommandBack :
    ({ seek40 with body := List.replicate 48 (0xFF : Byte) } : Frame).body.length ≤ 48 ∧
      eightLegs.wellFormed = true ∧ ∃ f, eightLegs.frame = some f :=
  ⟨by decide, by decide, _, rfl⟩

def idle (port : Port) : Frame := ⟨port, 0, 1, 0, 0, []⟩
theorem witness_FramesDiscardedOrPresented :
    goodFrame .host (idle .host).bytes = some (idle .host) ∧
      goodFrame .host (hostFrame (hdr 0) 0x21 []).bytes = some (hostFrame (hdr 0) 0x21 []) ∧
      (List.replicate 9 (0 : Byte)).length < 10 ∧
      (let bytes : List Byte := List.replicate 7 0 ++ [1, 0, 0]
       bytes.length ≠ 10 + (half (bytes.getD 6 0) (bytes.getD 7 0)).toNat) ∧
      (let bytes : List Byte := List.replicate 10 0
       bytes.drop (bytes.length - 2) ≠ be16 (crc (bytes.take (bytes.length - 2)))) := by decide +kernel

/-- The BOOKED record of the worked example held with 4,000 ms, link A UP or DOWN. -/
def held (up : Bool) : State :=
  { booked with
    ports := { booked.ports with linkA := if up then upLink else RobotLink.reset }
    timer := ⟨1220000, []⟩
    engine := { booked.engine with records := [(57, bin6100 (.booked 12 210 none none (.held 4000)) 5 0 0)] } }
theorem witness_GoodFrameOnLink :
    goodFrame (.link .a) (idle (.link .a)).bytes = some (idle (.link .a)) ∧ (held false).engine.records.wf = true ∧
      (held false).linkUp .a = false ∧ (held true).linkUp .a = true := by decide +kernel

/-- Link A UP with its silence timer run out, or with one millisecond left. -/
def silent (left : Nat) : State := { booked with ports := { booked.ports with linkA := { upLink with silence := some left } } }
theorem witness_SilenceTimerExpiry :
    (silent 0).engine.records.wf = true ∧ (silent 0).linkUp .a = true ∧ ((silent 0).ports.robotLink .a).silence = some 0 ∧
      ¬ ((silent 1).linkUp .a = true ∧ ((silent 1).ports.robotLink .a).silence = some 0) := by decide +kernel

/-- The rotation pointer stands at link A; one port holds a request. -/
def waiting (port : Port) : PortUnit := PortUnit.reset.setQueue port [{ seek40 with port := port }]
theorem witness_RotationTakesTheNextRequest :
    (∀ q, PortUnit.reset.queue q = []) ∧
      ((waiting (.link .a)).queue (.link .a) = { seek40 with port := .link .a } :: [] ∧ (waiting (.link .a)).pointer = .link .a) ∧
      ((waiting (.link .b)).queue (.link .b) = { seek40 with port := .link .b } :: [] ∧
        portAfter (waiting (.link .b)).pointer = .link .b ∧ (waiting (.link .b)).queue (waiting (.link .b)).pointer = []) ∧
      ((waiting .host).queue .host = { seek40 with port := .host } :: [] ∧
        portAfter (portAfter (waiting .host).pointer) = .host ∧ (waiting .host).queue (waiting .host).pointer = [] ∧
        (waiting .host).queue (portAfter (waiting .host).pointer) = []) :=
  ⟨by rintro (⟨_ | _⟩ | _) <;> rfl, by decide +kernel⟩

/-- A request of robot 12 on link A. -/
def from12 : Frame := ⟨.link .a, 6, 0, 0x107, 12, []⟩
/-- Link A holds a request, and the pointer stands at it. -/
def turn (f : Frame) : State := { base with ports := { PortUnit.reset with linkA := { RobotLink.reset with queue := [f] } } }
theorem witness_RequestWaitsItsTurn :
    (∃ f, eightLegs.frame = some f ∧ eightLegs.wellFormed = true ∧ ∀ q, base.ports.queue q = []) ∧
      (∃ f, (Instr.seek .a (hdr 12)).frame = some f ∧ (turn f).ports.nextRequest = some f) ∧
      (∃ f, (Instr.status (hdr 0)).frame = some f ∧ base.ports.nextRequest ≠ some f ∧
        (base.present f).ports.nextRequest = some f) ∧
      ∃ f, (Instr.status (hdr 0)).frame = some f ∧ (turn from12).ports.nextRequest ≠ some f ∧
        ((turn from12).present f).ports.nextRequest ≠ some f ∧ (turn from12).ready (.status (hdr 0)) = none :=
  ⟨⟨_, rfl, by decide, by rintro (⟨_ | _⟩ | _) <;> rfl⟩, ⟨_, rfl, by decide +kernel⟩, ⟨_, rfl, by decide +kernel⟩, _, rfl,
    by decide +kernel⟩

def ReadyWith (s : State) (c : Instr) (P : Frame → State → Prop) : Prop := ∃ f u, s.ready c = some (f, u) ∧ P f u
theorem readyWith {s : State} {c : Instr} {P : Frame → State → Prop} [∀ f u, Decidable (P f u)]
    (h : (match s.ready c with
      | some (f, u) => decide (P f u)
      | none => false) = true) : ReadyWith s c P := by
  split at h
  · next f u e => exact ⟨f, u, e, of_decide_eq_true h⟩
  · cases h

theorem witness_ModeAndIntakeRefusals :
    ReadyWith flushing (.missLimit (hdr 0) 1) (fun f u => f.port = .host ∧ f.kind ≠ 0x21 ∧ u.engine.mode = .flushing) ∧
      ReadyWith base (.seek .a (hdr 12)) (fun f u => f.port = .link .a ∧ u.engine.mode ≠ .run) ∧
      ReadyWith empty (.seek .a (hdr 0)) (fun f u => f.port = .link .a ∧ u.engine.mode = .run ∧ f.robot = 0) ∧
      ReadyWith empty (.seek .b (hdr 1024)) (fun f u => f.port = .link .b ∧ u.engine.mode = .run ∧ 1023 < f.robot.toNat) ∧
      ReadyWith empty (.seek .b (hdr 1023))
        (fun f u => f.port = .link .b ∧ u.engine.mode = .run ∧ u.robot f.robot.toNat = none) :=
  ⟨readyWith (by decide +kernel), readyWith (by decide +kernel), readyWith (by decide +kernel), readyWith (by decide +kernel),
    readyWith (by decide +kernel)⟩

theorem witness_IntakeLinkUpdate :
    (∃ v, empty.intake from12 = some (12, v) ∧ empty.robot 12 = some (robotOf 1 .a none)) ∧
      (∃ v, (held true).intake from12 = some (12, v) ∧ (held true).robot 12 = some (robotOf 1 .a (some (h57, .carrier))) ∧
        (held true).engine.records.look h57.slot = some (bin6100 (.booked 12 210 none none (.held 4000)) 5 0 0) ∧
        (held true).linkUp .a = true) ∧
      ∃ v, { booked with ports := PortUnit.reset }.intake from12 = some (12, v) ∧
        { booked with ports := PortUnit.reset }.engine.records.look h57.slot =
          some (bin6100 (.booked 12 210 none none (.armed 1214000)) 5 0 0) ∧
        { booked with ports := PortUnit.reset }.linkUp .a = false :=
  ⟨⟨_, rfl, by decide +kernel⟩, ⟨_, rfl, by decide +kernel⟩, _, rfl, by decide +kernel⟩

theorem witness_RepliesLeaveByTheirPort :
    from12.port = .link .a ∧ (⟨.ok, [[]]⟩ : Answer).segments = [[]] ∧ (hostFrame (hdr 0) 0x21 []).port = .host :=
  ⟨rfl, rfl, rfl⟩

/-! ### Custody steps -/

def lapsed : State := { carried with engine := { carried.engine with records := [(57, bin6100 (.carried 12 (some 12)) 5 0 0)] } }
theorem witness_PartyTestAnswers :
    (partyRequest (.unbook .a (hdr 12) 0x9839) = some (0x9839, .booked, true) ∧
        Robots booked (.unbook .a (hdr 12) 0x9839) fun _ v => v.resolve 0x9839 = none) ∧
      (partyRequest (.unbook .a (hdr 12) f57) = some (f57, .booked, true) ∧
        Robots lapsed (.unbook .a (hdr 12) f57) fun n v => n = 12 ∧
          v.resolve f57 = some (h57, bin6100 (.carried 12 (some 12)) 5 0 0)) ∧
      (partyRequest (.setdown .b (hdr 40) f57) = some (f57, .booked, true) ∧
        Robots booked (.setdown .b (hdr 40) f57) fun n v => n = 40 ∧
          v.resolve f57 = some (h57, bin6100 (.booked 12 210 none none (.armed 1214000)) 5 0 0)) ∧
      (partyRequest (.finish .a (hdr 12) f57 255) = some (f57, .carried, false) ∧
        Robots booked (.finish .a (hdr 12) f57 255) fun n v => n = 12 ∧
          v.resolve f57 = some (h57, bin6100 (.booked 12 210 none none (.armed 1214000)) 5 0 0)) ∧
      partyRequest (.book .a (hdr 12) f57 1023 1023) = some (f57, .carried, true) :=
  ⟨⟨rfl, robots (by decide +kernel)⟩, ⟨rfl, robots (by decide +kernel)⟩, ⟨rfl, robots (by decide +kernel)⟩,
    ⟨rfl, robots (by decide +kernel)⟩, rfl⟩

/-- Rule 63 matches everything, notifies once, and denies or not. -/
def lastRule (deny : Bool) : Rule := { Rule.reset with valid := true, deny := deny, notifyOnce := true }
def ruled (deny : Bool) : State := { carried with rules := [(63, lastRule deny)] }
theorem witness_PolicyEvaluation :
    (ruled true).rules.wf = true ∧ (ruled true).rules.look 63 = some (lastRule true) ∧ (lastRule true).valid = true := by
  decide +kernel

theorem witness_CustodyCheckModes :
    (designated.robot 55 = some (robotOf 5 .b none) ∧ designated.cell spot330.cell = some (cell330 [h57] 0)) ∧
      (empty.robot 12 = some (robotOf 1 .a none) ∧ empty.cell spot210.cell = some (cell210 [] 0)) ∧
      empty.cell { spot210 with cell := 118 }.cell = some cell118 ∧
      { empty with engine := { empty.engine with cells := [(1023, { cell118 with check := .robot })] } }.cell
        { spot210 with cell := 1023, receiver := some 1023 }.cell = some { cell118 with check := .robot } := by decide +kernel

theorem witness_PickupQueueChanges :
    7 < 8 ∧ (∃ k, k < 8 ∧ standsIn h57 (staged.queueOf k) = true) ∧ (¬ ∃ k, k < 8 ∧ standsIn h57 (booked.queueOf k) = true) ∧
      ((0xFFFFFFFF : Word) ≠ 1 ∧ seqAge 2 0xFFFFFFFF < seqAge 2 1 + 2 ^ 31 ∧ seqAge 2 1 < seqAge 2 0xFFFFFFFF + 2 ^ 31) := by
  decide +kernel

theorem witness_DeclareOpensRecord :
    (Robots empty (.declare .a (hdr 12) 6100 2 15 7 30 255) fun n v => v.robot n = some (robotOf 1 .a none) ∧
        v.plans.look 7 = some ⟨[⟨4, 4⟩, ⟨9, 32⟩], 0⟩ ∧ v.engine.binIndex.look 6100 = none ∧ v.engine.freeSlots = 57 :: [58]) ∧
      ThermalClass.frozen.code = 2 ∧
      (Robots empty (.declare .a (hdr 12) 0xFFFFFFFF 0 0 255 0 0) fun n v => v.robot n = some (robotOf 1 .a none) ∧
        v.engine.binIndex.look 0xFFFFFFFF = none ∧ v.engine.freeSlots = 57 :: [58]) ∧ ThermalClass.ambient.code = 0 :=
  ⟨robots (by decide +kernel), rfl, robots (by decide +kernel), rfl⟩

theorem witness_DeclareChecksInOrder :
    (Robots carried (.declare .a (hdr 12) 1 0 0 255 0 0) fun n v => ((v.robot n).bind (·.party)).isSome) ∧
      (Robots empty (.declare .a (hdr 12) 0 2 15 255 0 0) fun n v => (v.robot n).bind (·.party) = none) ∧
      (Robots empty (.declare .a (hdr 12) 1 2 16 255 0 0) fun n v => (v.robot n).bind (·.party) = none) ∧
      (Robots empty (.declare .a (hdr 12) 1 2 15 254 0 0) fun _ v => v.plans.look 254 = none) ∧
      (Robots carried (.declare .b (hdr 40) 6100 2 15 7 0 0) fun _ v => v.engine.binIndex.look 6100 ≠ none) ∧
      Robots { empty with engine := { empty.engine with freeSlots := [] } } (.declare .a (hdr 12) 1 2 15 7 0 0)
        fun _ v => v.engine.binIndex.look 1 = none ∧ v.engine.freeSlots = [] :=
  ⟨robots (by decide +kernel), robots (by decide +kernel), robots (by decide +kernel), robots (by decide +kernel),
    robots (by decide +kernel), robots (by decide +kernel)⟩

/-- Bin 6100 CARRIED, with one cell on the grid. -/
def carriedBy (n : Nat) (c : Cell) : State := { carried with engine := { carried.engine with cells := [(n, c)] } }
theorem witness_BookReservesPlace :
    (Robots carried (.book .a (hdr 12) f57 210 0) fun n v =>
        v.resolve f57 = some (h57, bin6100 (.carried 12 none) 5 0 0) ∧ n = 12 ∧ v.cell 210 = some (cell210 [] 0) ∧
        v.legOf ⟨7, 0⟩ = some ⟨4, 4⟩ ∧ (cell210 [] 0).groups.getLsbD 4 = true ∧
        v.matchRule (bookKey (bin6100 (.carried 12 none) 5 0 0) 2) = none) ∧
      (Robots { carriedBy 1023 { cell210 [h57, h57] 1 with state := .draining, admissions := 1 } with ports := .reset }
          (.book .a (hdr 12) f57 1023 1023) fun n v =>
        v.resolve f57 = some (h57, bin6100 (.carried 12 none) 5 0 0) ∧ n = 12 ∧
        v.cell 1023 = some { cell210 [h57, h57] 1 with state := .draining, admissions := 1 } ∧ v.linkUp .a = false) ∧
      Robots (ruled false) (.book .a (hdr 12) f57 210 0) fun _ v =>
        v.matchRule (bookKey (bin6100 (.carried 12 none) 5 0 0) 2) = some (63, lastRule false) :=
  ⟨robots (by decide +kernel), robots (by decide +kernel), robots (by decide +kernel)⟩

theorem witness_BookChecksInOrder :
    (Robots carried (.book .a (hdr 12) f57 1024 0) fun _ _ => 1023 < (1024 : Half).toNat) ∧
      (Robots carried (.book .a (hdr 12) f57 0 1024) fun _ _ => 1023 < (1024 : Half).toNat) ∧
      (Robots { carried with engine := { carried.engine with records := [(57, bin6100 (.carried 12 none) 5 1 2)] } }
        (.book .a (hdr 12) f57 1023 0) fun _ v => v.resolve f57 = some (h57, bin6100 (.carried 12 none) 5 1 2)) ∧
      (Robots carried (.book .a (hdr 12) f57 1023 0) fun _ v => v.cell 1023 = none) ∧
      (Robots (carriedBy 210 { cell210 [] 0 with state := .closed }) (.book .a (hdr 12) f57 210 0) fun _ v =>
        v.cell 210 = some { cell210 [] 0 with state := .closed }) ∧
      (Robots (carriedBy 210 { cell210 [] 0 with state := .draining }) (.book .a (hdr 12) f57 210 0) fun _ v =>
        v.cell 210 = some { cell210 [] 0 with state := .draining }) ∧
      (Robots carried (.book .a (hdr 12) f57 118 0) fun _ v => v.legOf ⟨7, 0⟩ = some ⟨4, 4⟩ ∧
        v.cell 118 = some cell118 ∧ cell118.groups.getLsbD 4 = false) ∧
      (Robots (carriedBy 210 (cell210 [] 4)) (.book .a (hdr 12) f57 210 0) fun _ v => v.cell 210 = some (cell210 [] 4) ∧
        (cell210 [] 4).capacity ≤ (cell210 [] 4).stack.length + (cell210 [] 4).reserved) ∧
      Robots (ruled true) (.book .a (hdr 12) f57 210 0) fun _ v =>
        v.matchRule (bookKey (bin6100 (.carried 12 none) 5 0 0) 2) = some (63, lastRule true) :=
  ⟨robots (by decide +kernel), robots (by decide +kernel), robots (by decide +kernel), robots (by decide +kernel),
    robots (by decide +kernel), robots (by decide +kernel), robots (by decide +kernel), robots (by decide +kernel),
    robots (by decide +kernel)⟩

def drained : Cell := { cell210 [] 0 with state := .draining }
theorem witness_UnbookYieldAndCloseCheck :
    (Robots booked (.unbook .a (hdr 12) f57) fun n v =>
        v.resolve f57 = some (h57, bin6100 (.booked 12 210 none none (.armed 1214000)) 5 0 0) ∧ n = 12 ∧
        v.cell 210 = some (cell210 [] 1)) ∧
      (Robots claimed (.yieldBin .b (hdr 40) f57) fun n v =>
        v.resolve f57 = some (h57, bin6100 (.claimed spot210 40 (.armed 1245000)) 2 0 0) ∧ n = 40 ∧
        v.robot n = some (robotOf 2 .b (some (h57, .claimant)))) ∧
      (carriedBy 210 drained).cell 210 = some drained ∧ drained.closes ∧
      (carriedBy 210 { drained with admissions := 1 }).cell 210 = some { drained with admissions := 1 } ∧
      ¬ ({ drained with admissions := 1 } : Cell).closes :=
  ⟨robots (by decide +kernel), robots (by decide +kernel), by decide +kernel, ⟨rfl, rfl, rfl, rfl⟩, by decide +kernel,
    fun h => by cases h.2.1⟩

/-- The BOOKED bin's cell with another bin on it, STAGED or CLAIMED. -/
def standing (custody : Custody) : State :=
  { booked with
    engine :=
      { booked.engine with
        records := booked.engine.records ++ [(58, { bin6100 custody 2 0 0 with bin := 6101 })]
        cells := [(210, cell210 [⟨58, 0⟩] 1)] } }
theorem witness_SetdownStagesRecord :
    (Robots (standing (.claimed spot210 40 (.armed 1245000))) (.setdown .a (hdr 12) f57) fun n v =>
        v.resolve f57 = some (h57, bin6100 (.booked 12 210 none none (.armed 1214000)) 5 0 0) ∧
        v.cell 210 = some (cell210 [⟨58, 0⟩] 1) ∧ v.robot n = some (robotOf 1 .a (some (h57, .carrier))) ∧
        (((cell210 [⟨58, 0⟩] 1).stack.getLast?).bind v.recordOf).map (·.custody.state) = some .claimed) ∧
      (Robots (standing (.staged spot210 none)) (.setdown .a (hdr 12) f57) fun n v =>
        v.resolve f57 = some (h57, bin6100 (.booked 12 210 none none (.armed 1214000)) 5 0 0) ∧
        v.cell 210 = some (cell210 [⟨58, 0⟩] 1) ∧ v.robot n = some (robotOf 1 .a (some (h57, .carrier))) ∧
        (((cell210 [⟨58, 0⟩] 1).stack.getLast?).bind v.recordOf).map (·.custody.state) ≠ some .claimed) ∧
      Robots booked (.setdown .a (hdr 12) f57) fun _ v =>
        (((cell210 [] 1).stack.getLast?).bind v.recordOf).map (·.custody.state) ≠ some .claimed ∧ h57 ∉ (cell210 [] 1).stack :=
  ⟨robots (by decide +kernel), robots (by decide +kernel), robots (by decide +kernel)⟩

theorem witness_ClaimGrantsTop : Robots staged (.claim .b (hdr 40) f57) fun n v =>
    v.robot n = some (robotOf 2 .b none) ∧ v.resolve f57 = some (h57, bin6100 (.staged spot210 none) 2 0 0) ∧
      v.cellTop 210 = some h57 ∧ v.custodyCheck n spot210 = true := robots (by decide +kernel)

/-- Bin 6100 STAGED on cell 210, robot 40's entry as given. -/
def stagedFor (e : Robot) : State := { staged with engine := { staged.engine with roster := [(40, e)] } }
theorem witness_ClaimChecksInOrder :
    (Robots (stagedFor { robotOf 2 .b none with suspended := true }) (.claim .b (hdr 40) f57) fun n v =>
        v.robot n = some { robotOf 2 .b none with suspended := true }) ∧
      (Robots (stagedFor (robotOf 2 .b (some (⟨58, 0⟩, .carrier)))) (.claim .b (hdr 40) f57) fun n v =>
        v.robot n = some (robotOf 2 .b (some (⟨58, 0⟩, .carrier)))) ∧
      (Robots staged (.claim .b (hdr 40) 0x8000) fun _ v => v.resolve 0x8000 = none) ∧
      (Robots booked (.claim .b (hdr 40) f57) fun _ v => (v.resolve f57).map (·.2.custody.state) = some .booked) ∧
      (Robots { staged with engine := { staged.engine with cells := [(210, cell210 [h57, ⟨58, 0⟩] 0)] } }
          (.claim .b (hdr 40) f57) fun _ v => v.resolve f57 = some (h57, bin6100 (.staged spot210 none) 2 0 0) ∧
        v.cell 210 = some (cell210 [h57, ⟨58, 0⟩] 0) ∧ (cell210 [h57, ⟨58, 0⟩] 0).stack.getLast? ≠ some h57) ∧
      (Robots designated (.claim .a (hdr 61) f57) fun n v => v.resolve f57 = some (h57, bin6100 (.staged spot330 none) 6 1 1) ∧
        v.cell 330 = some (cell330 [h57] 0) ∧ (cell330 [h57] 0).stack.getLast? = some h57 ∧ v.custodyCheck n spot330 = false) :=
  ⟨robots (by decide +kernel), robots (by decide +kernel), robots (by decide +kernel), robots (by decide +kernel),
    robots (by decide +kernel), robots (by decide +kernel)⟩

theorem witness_SeekGrantsFirstMember :
    (Robots (stagedFor { robotOf 2 .b none with suspended := true }) (.seek .b (hdr 40)) fun n v =>
        v.robot n = some { robotOf 2 .b none with suspended := true }) ∧
      (Robots (stagedFor (robotOf 2 .b (some (⟨58, 0⟩, .carrier)))) (.seek .b (hdr 40)) fun n v =>
        v.robot n = some (robotOf 2 .b (some (⟨58, 0⟩, .carrier)))) ∧
      (Robots empty (.seek .b (hdr 40)) fun n v => v.robot n = some (robotOf 2 .b none) ∧ v.queueOf 2 = []) ∧
      Robots staged (.seek .b (hdr 40)) fun n v => v.robot n = some (robotOf 2 .b none) ∧
        v.queueOf 2 = [] ++ ⟨h57, 1, 8812⟩ :: [] ∧ v.recordOf h57 = some (bin6100 (.staged spot210 none) 2 0 0) ∧
        spot210.receiver = none ∧ v.custodyCheck n spot210 = true :=
  ⟨robots (by decide +kernel), robots (by decide +kernel), robots (by decide +kernel), robots (by decide +kernel)⟩

theorem witness_TakeupLiftsTop : Robots claimed (.takeup .b (hdr 40) f57) fun n v =>
    v.resolve f57 = some (h57, bin6100 (.claimed spot210 40 (.armed 1245000)) 2 0 0) ∧ n = 40 ∧
      v.robot n = some (robotOf 2 .b (some (h57, .claimant))) ∧ v.cell 210 = some (cell210 [h57] 0) :=
  robots (by decide +kernel)

theorem witness_FinishRetiresRecord :
    (Robots carried (.finish .a (hdr 12) f57 2) fun n v => n = 12 ∧
        v.resolve f57 = some (h57, bin6100 (.carried 12 none) 5 0 0) ∧ 1 < (2 : Byte).toNat) ∧
      Robots carried (.finish .a (hdr 12) f57 1) fun n v => n = 12 ∧
        v.resolve f57 = some (h57, bin6100 (.carried 12 none) 5 0 0) ∧ (1 : Byte).toNat ≤ 1 :=
  ⟨robots (by decide +kernel), robots (by decide +kernel)⟩

theorem witness_RetirementOfARecord :
    (carried.robot 12 = some (robotOf 1 .a (some (h57, .carrier))) ∧ (bin6100 (.carried 12 none) 5 0 0).custody.party = some 12 ∧
        (bin6100 (.carried 12 none) 5 0 0).custody.state = .carried) ∧
      (bin6100 (.booked 12 210 none none (.held 0)) 5 0 0).custody.state = .booked ∧
      (bin6100 (.staged spot210 none) 2 0 0).custody.spot = some spot210 ∧ staged.cell spot210.cell = some (cell210 [h57] 0) ∧
      (bin6100 (.claimed spot210 40 (.held 0)) 2 0 0).custody.spot = some spot210 := by decide +kernel

theorem witness_QueriesChangeNothing :
    (Robots carried (.queryBin .a (hdr 12) 6101) fun _ v => v.engine.binIndex.look 6101 = none) ∧
      ((Robots visiting (.queryBin .a (hdr 12) 0) fun _ _ => True) ∧ visiting.slotLaw) ∧
      (Robots carried (.queryBin .a (hdr 12) 6100) fun _ v => v.engine.binIndex.look 6100 = some 57 ∧
        v.engine.records.look 57 = some (bin6100 (.carried 12 none) 5 0 0)) ∧
      (Robots staged (.queryCell .b (hdr 40) 1024) fun _ _ => 1023 < (1024 : Half).toNat) ∧
      (Robots staged (.queryCell .b (hdr 40) 1023) fun _ v => v.cell 1023 = none) ∧
      Robots staged (.queryCell .b (hdr 40) 210) fun _ v => v.cell 210 = some (cell210 [h57] 0) ∧
        ∀ b ∈ (cell210 [h57] 0).stack, (v.recordOf b).isSome = true :=
  ⟨robots (by decide +kernel), ⟨robots (by decide +kernel), witness_visiting_slotLaw⟩, robots (by decide +kernel),
    robots (by decide +kernel), robots (by decide +kernel), robots (by decide +kernel)⟩

/-! ### Tables -/

theorem witness_CellWriteWritesEntry :
    (Hosts base (.cellWrite (hdr 0) 1024 cfg) fun u => u.engine.cells.wf = true) ∧
      (Hosts base (.cellWrite (hdr 0) 1023 { cfg with capacity := 5 }) fun u => u.engine.cells.wf = true) ∧
      (Hosts empty (.cellWrite (hdr 0) 118 { cfg with column := 2, row := 1 }) fun u => u.engine.cells.wf = true ∧
        u.cell 210 = some (cell210 [] 0) ∧ (cell210 [] 0).column = 2 ∧ (cell210 [] 0).row = 1) ∧
      (Hosts staged (.cellWrite (hdr 0) 210 cfg) fun u => u.engine.cells.wf = true ∧ u.cell 210 = some (cell210 [h57] 0) ∧
        0 < (cell210 [h57] 0).stack.length + (cell210 [h57] 0).reserved ∧ (cell210 [h57] 0).zone ≠ cfg.zone.toNat) ∧
      Hosts base (.cellWrite (hdr 0) 1023 cfg) fun u => u.engine.cells.wf = true ∧ u.engine.cells = [] ∧
        CheckMode.combined.code = cfg.mode :=
  ⟨hosts (by decide +kernel), hosts (by decide +kernel), hosts (by decide +kernel), hosts (by decide +kernel),
    hosts (by decide +kernel)⟩

theorem witness_CellDeleteReopenDrain :
    (Hosts empty (.cellDelete (hdr 0) 1023) fun u => u.cell 1023 = none) ∧
      (Hosts staged (.cellDelete (hdr 0) 210) fun u => u.cell 210 = some (cell210 [h57] 0)) ∧
      (Hosts empty (.cellDelete (hdr 0) 118) fun u => u.cell 118 = some cell118) ∧
      (Hosts empty (.cellReopen (hdr 0) 118) fun u => u.cell 118 = some cell118) ∧
      (Hosts (carriedBy 1023 drained) (.cellReopen (hdr 0) 1023) fun u => u.cell 1023 = some drained) ∧
      (Hosts (carriedBy 1023 { drained with state := .closed }) (.cellDrain (hdr 0) 1023 15) fun u =>
        u.cell 1023 = some { drained with state := .closed }) ∧
      (Hosts empty (.cellDrain (hdr 0) 118 15) fun u => u.cell 118 = some cell118) ∧
      (Hosts empty (.cellDrain (hdr 0) 118 0) fun u => u.cell 118 = some cell118) ∧
      Hosts empty (.cellDrain (hdr 0) 118 16) fun _ => 15 < (16 : Byte).toNat :=
  ⟨hosts (by decide +kernel), hosts (by decide +kernel), hosts (by decide +kernel), hosts (by decide +kernel),
    hosts (by decide +kernel), hosts (by decide +kernel), hosts (by decide +kernel), hosts (by decide +kernel),
    hosts (by decide +kernel)⟩

theorem witness_RosterRequests :
    (Hosts base (.robotEnrol (hdr 0) 1023 7) fun u => u.robot 1023 = none) ∧
      (Hosts empty (.robotEnrol (hdr 0) 12 0) fun u => u.robot 12 = some (robotOf 1 .a none)) ∧
      (Hosts base (.robotEnrol (hdr 0) 1024 8) fun _ => 7 < (8 : Byte).toNat) ∧
      (Hosts empty (.robotWithdraw (hdr 0) 1023) fun u => (u.robot 1023).isNone) ∧
      (Hosts claimed (.robotWithdraw (hdr 0) 40) fun u => ((u.robot 40).bind (·.party)).isSome) ∧
      (Hosts empty (.robotWithdraw (hdr 0) 12) fun u => u.robot 12 = some (robotOf 1 .a none)) ∧
      (Hosts empty (.robotSuspend (hdr 0) 1023) fun u => u.robot 1023 = none) ∧
      (Hosts empty (.robotSuspend (hdr 0) 12) fun u => u.robot 12 = some (robotOf 1 .a none)) ∧
      (Hosts empty (.robotResume (hdr 0) 12) fun u => u.robot 12 = some (robotOf 1 .a none)) ∧
      (Hosts empty (.robotResume (hdr 0) 0) fun _ => (0 : Half).toNat = 0) ∧
      (Hosts base (.missLimit (hdr 0) 7) fun _ => (7 : Byte).toNat ≤ 7) ∧
      (Hosts base (.missLimit (hdr 0) 8) fun _ => 7 < (8 : Byte).toNat) ∧
      (Hosts empty (.robotRead (hdr 0) 1023) fun u => u.robot 1023 = none) ∧
      (Hosts empty (.robotRead (hdr 0) 12) fun u => u.robot 12 = some (robotOf 1 .a none)) ∧
      Hosts carried (.robotRead (hdr 0) 12) fun u => u.robot 12 = some (robotOf 1 .a (some (h57, .carrier))) ∧
        u.recordOf h57 = some (bin6100 (.carried 12 none) 5 0 0) :=
  ⟨hosts (by decide +kernel), hosts (by decide +kernel), hosts (by decide +kernel), hosts (by decide +kernel),
    hosts (by decide +kernel), hosts (by decide +kernel), hosts (by decide +kernel), hosts (by decide +kernel),
    hosts (by decide +kernel), hosts (by decide +kernel), hosts (by decide +kernel), hosts (by decide +kernel),
    hosts (by decide +kernel), hosts (by decide +kernel), hosts (by decide +kernel)⟩

theorem witness_PlanRequests :
    (Hosts base eightLegs fun u => u.plans.look 254 = none) ∧
      (Hosts base (.planWrite (hdr 0) 255 1 [leg]) fun _ => ¬ (255 : Byte).toNat ≤ 254) ∧
      (Hosts carried (.planWrite (hdr 0) 7 1 [(31, 255)]) fun u => u.plans.look 7 = some ⟨[⟨4, 4⟩, ⟨9, 32⟩], 1⟩) ∧
      (Hosts base (.planClear (hdr 0) 254) fun u => (u.plans.look 254).isNone) ∧
      (Hosts carried (.planClear (hdr 0) 7) fun u => u.plans.look 7 = some ⟨[⟨4, 4⟩, ⟨9, 32⟩], 1⟩) ∧
      (Hosts empty (.planClear (hdr 0) 7) fun u => u.plans.look 7 = some ⟨[⟨4, 4⟩, ⟨9, 32⟩], 0⟩) ∧
      (Hosts base (.planClear (hdr 0) 255) fun _ => True) ∧ Hosts base (.planRead (hdr 0) 254) fun _ => True :=
  ⟨hosts (by decide +kernel), hosts (by decide +kernel), hosts (by decide +kernel), hosts (by decide +kernel),
    hosts (by decide +kernel), hosts (by decide +kernel), hosts (by decide +kernel), hosts (by decide +kernel)⟩

/-- Zone 15 in MANUAL mode. -/
def manual : State := { base with dwell := { base.dwell with zones := [(15, ⟨-120, false, 15, false⟩)] } }
theorem witness_ZoneRequests :
    (Hosts base (.zoneSense (hdr 0) 15 0x7FFF) fun u => (u.zone 15).sensor = true) ∧
      (Hosts manual (.zoneSense (hdr 0) 15 0) fun u => (u.zone 15).sensor = false) ∧
      (Hosts base (.zoneSet (hdr 0) 15 0) fun u => (u.zone 15).sensor = true) ∧
      (Hosts manual (.zoneSet (hdr 0) 15 0x8000) fun u => (u.zone 15).sensor = false) ∧
      (Hosts manual (.zoneMode (hdr 0) 15 0) fun u => (u.zone 15).sensor = false) ∧
      (Hosts base (.zoneMode (hdr 0) 15 1) fun u => (u.zone 15).sensor = true) ∧
      (Hosts base (.zoneMode (hdr 0) 16 2) fun _ => 15 < (16 : Byte).toNat) ∧
      (Hosts base (.zoneRead (hdr 0) 15) fun _ => True) ∧ Hosts base (.zoneRead (hdr 0) 16) fun _ => True :=
  ⟨hosts (by decide +kernel), hosts (by decide +kernel), hosts (by decide +kernel), hosts (by decide +kernel),
    hosts (by decide +kernel), hosts (by decide +kernel), hosts (by decide +kernel), hosts (by decide +kernel),
    hosts (by decide +kernel)⟩

theorem witness_ClassAndDwellSettings :
    (Hosts base (.classWrite (hdr 0) 2 ⟨120, 255, 15, 65535, 15, 255⟩) fun _ => True) ∧
      (Hosts base (.classWrite (hdr 0) 0 ⟨0x88, 0, 0, 1, 1, 0⟩) fun _ => True) ∧
      (Hosts base (.classWrite (hdr 0) 2 ⟨121, 0, 0, 1, 1, 0⟩) fun _ => 120 < (121 : Byte).toInt) ∧
      (Hosts base (.classRead (hdr 0) 3) fun _ => 2 < (3 : Byte).toNat) ∧
      (Hosts base (.classRead (hdr 0) 2) fun _ => ThermalClass.frozen.code = 2) ∧
      (Hosts carried (.dwellSet (hdr 0) 60 15 20) fun u => u.engine.mode = .run) ∧
      (Hosts base (.dwellSet (hdr 0) 1 1 0) fun u => u.engine.mode ≠ .run) ∧ Hosts base (.dwellSet (hdr 0) 61 16 21) fun _ => True :=
  ⟨hosts (by decide +kernel), hosts (by decide +kernel), hosts (by decide +kernel), hosts (by decide +kernel),
    hosts (by decide +kernel), hosts (by decide +kernel), hosts (by decide +kernel), hosts (by decide +kernel)⟩

theorem witness_RuleWriteAndRead :
    (Hosts base (.ruleWrite (hdr 0) { ruleNine with index := 63, scale := 3 }) fun _ => Scale.four.code = 3) ∧
      (Hosts base (.ruleWrite (hdr 0) { ruleNine with index := 64 }) fun _ => ¬ (64 : Byte).toNat ≤ 63) ∧
      (Hosts base (.ruleRead (hdr 0) 63) fun _ => True) ∧ Hosts base (.ruleRead (hdr 0) 64) fun _ => True :=
  ⟨hosts (by decide +kernel), hosts (by decide +kernel), hosts (by decide +kernel), hosts (by decide +kernel)⟩

theorem witness_RuleHitsReadsThenClears :
    Hosts { base with rules := [(63, { lastRule true with hit := true })] } (.ruleHits (hdr 0) 0x8000000000000000) fun u =>
      (u.rule 63).hit = true := hosts (by decide +kernel)

theorem witness_LinkSettings :
    (Hosts base (.linkSet (hdr 0) 2 0 255 41) fun _ => True) ∧ (Hosts base (.linkSet (hdr 0) 3 0 0 0) fun _ => True) ∧
      (Hosts base (.linkRead (hdr 0) 2) fun _ => True) ∧ Hosts base (.linkRead (hdr 0) 3) fun _ => True :=
  ⟨hosts (by decide +kernel), hosts (by decide +kernel), hosts (by decide +kernel), hosts (by decide +kernel)⟩

/-! ### Events -/

def atLast (passPending : Bool) : State :=
  { base with dwell := { base.dwell with timer := some 0, cursor := some 2047, passPending := passPending } }
theorem witness_AccrualVisitOfASlot :
    base.dwell.cursor = none ∧ (warm 0 (.carried 12 none)).dwell.cursor = some 57 ∧
      (warm 0 (.carried 12 none)).engine.records.look 57 = some (bin6100 (.carried 12 none) 5 0 0) ∧
      (atLast true).dwell.cursor = some 2047 ∧ (atLast true).engine.records.look 2047 = none ∧
      (atLast true).dwell.passPending = true ∧ (atLast false).dwell.passPending = false := by decide +kernel

theorem witness_AccrualPeriodExpiryStartsPass :
    base.dwell.timer ≠ some 0 ∧ ((atLast true).dwell.timer = some 0 ∧ (atLast true).dwell.cursor ≠ none) ∧
      { base with dwell := { base.dwell with timer := some 0 } }.dwell.timer = some 0 ∧
      { base with dwell := { base.dwell with timer := some 0 } }.dwell.cursor = none := by decide +kernel

/-- The claim's deadline has just been reached. -/
def due : State := { claimed with timer := { claimed.timer with clock := 1245000 } }
theorem witness_DeadlineListAndExpiry :
    (∀ e ∈ claimed.timer.list, ¬ (0 ≤ (claimed.timer.clock - e.instant).toInt ∧ e.raised = false)) ∧
      due.timer.list = [] ++ ⟨1245000, h57, .claim, false⟩ :: [] ∧ 0 ≤ (due.timer.clock - 1245000).toInt := by decide +kernel

/-- An expiry of the booking has been raised. -/
def lapsing : State := { booked with engine := { booked.engine with expiries := [⟨h57, .booking, 1214000⟩] } }
theorem witness_ExpiryLapsesBooking :
    flushing.engine.mode = .flushing ∧ booked.engine.expiries[0]? = none ∧
      (lapsing.engine.mode ≠ .flushing ∧ lapsing.engine.expiries[0]? = some ⟨h57, .booking, 1214000⟩ ∧
        lapsing.recordOf h57 = some (bin6100 (.booked 12 210 none none (.armed 1214000)) 5 0 0) ∧
        lapsing.cell 210 = some (cell210 [] 1)) ∧
      { lapsing with engine := { lapsing.engine with gens := [] } }.recordOf h57 = none := by decide +kernel

theorem witness_ExpiryLapsesClaim :
    missed.engine.mode ≠ .flushing ∧ missed.engine.expiries[0]? = some ⟨h57, .claim, 1245000⟩ ∧
      missed.recordOf h57 = some (bin6100 (.claimed spot210 40 (.armed 1245000)) 2 0 0) ∧
      missed.cell spot210.cell = some (cell210 [h57] 0) ∧
      missed.robot 40 = some { robotOf 2 .b (some (h57, .claimant)) with misses := 2 } := by decide +kernel

def bin6230 : Record :=
  ⟨6230, .frozen, 0, 1, 9, 9, none, 2, 6, 12916, 12000, true, true, false, false, 0, .staged ⟨90, 612, 9000, 10, none⟩ none⟩
theorem witness_OverdueEventRaisesPriority :
    flushing.engine.mode = .flushing ∧ base.engine.overdues[0]? = none ∧
      ((rescue []).engine.mode ≠ .flushing ∧ (rescue []).engine.overdues[0]? = some ⟨812, 5⟩ ∧
        (rescue []).recordOf ⟨812, 5⟩ = some bin6230 ∧ ((rescue []).dwell.params bin6230.cls).rescue = some 240 ∧
        bin6230.rescued = false ∧ (rescue []).plans.look 240 = none) ∧
      { rescue [] with engine := { (rescue []).engine with gens := [] } }.recordOf ⟨812, 5⟩ = none ∧
      ({ rescue [] with dwell := .reset }.dwell.params bin6230.cls).rescue = none := by decide +kernel

theorem witness_OverdueEventSwitchesPlan :
    (rescue plan240).engine.mode ≠ .flushing ∧ (rescue plan240).engine.overdues[0]? = some ⟨812, 5⟩ ∧
      (rescue plan240).recordOf ⟨812, 5⟩ = some bin6230 ∧ ((rescue plan240).dwell.params bin6230.cls).rescue = some 240 ∧
      bin6230.rescued = false ∧ (rescue plan240).plans.look 240 = some ⟨[⟨20, 128⟩, ⟨21, 1⟩], 0⟩ := by decide +kernel

/-! ### Supervision and notices -/

theorem witness_ModeRequestSetsMode :
    (Hosts base (.mode (hdr 0) 2) fun _ => 1 < (2 : Byte).toNat) ∧ (Hosts base (.mode (hdr 0) 0) fun u => u.engine.mode = .setup) ∧
      (Hosts base (.mode (hdr 0) 1) fun u => u.engine.mode ≠ .run) ∧ (Hosts carried (.mode (hdr 0) 0) fun u => u.liveCount ≠ 0) ∧
      Hosts empty (.mode (hdr 0) 0) fun u => u.engine.mode = .run ∧ u.liveCount = 0 :=
  ⟨hosts (by decide +kernel), hosts (by decide +kernel), hosts (by decide +kernel), hosts (by decide +kernel),
    hosts (by decide +kernel)⟩

theorem witness_StatusLookupScan :
    (ReadyWith flushing (.status (hdr 0)) fun _ _ => True) ∧
      (Hosts base (.lookup (hdr 0) 2 0) fun _ => 1 < (2 : Byte).toNat) ∧
      (Hosts base (.lookup (hdr 0) 1 65536) fun _ => 65535 < (65536 : Word).toNat) ∧
      (Hosts staged (.lookup (hdr 0) 0 6100) fun u => u.engine.binIndex.look 6100 = some 57 ∧
        u.engine.records.look 57 = some (bin6100 (.staged spot210 none) 2 0 0) ∧ h57 = u.handleOf 57) ∧
      (Hosts staged (.lookup (hdr 0) 1 0x1839) fun u => u.recordOf h57 = some (bin6100 (.staged spot210 none) 2 0 0)) ∧
      (Hosts staged (.lookup (hdr 0) 1 65535) fun _ => ¬ (65535 : Word).toNat < 32768) ∧
      (Hosts staged (.scan (hdr 0) 2048 8) fun u => u.engine.records.wf = true ∧ 2047 < (2048 : Half).toNat) ∧
      Hosts staged (.scan (hdr 0) 0 1) fun u => u.engine.records.wf = true :=
  ⟨readyWith (by decide +kernel), hosts (by decide +kernel), hosts (by decide +kernel), hosts (by decide +kernel),
    hosts (by decide +kernel), hosts (by decide +kernel), hosts (by decide +kernel), hosts (by decide +kernel)⟩

theorem witness_RetireAndFlush :
    (Hosts booked (.retire (hdr 0) 0xFFFF) fun u => u.resolve 0xFFFF = none) ∧
      (Hosts booked (.retire (hdr 0) f57) fun u =>
        u.resolve f57 = some (h57, bin6100 (.booked 12 210 none none (.armed 1214000)) 5 0 0)) ∧
      (ReadyWith base (.flush (hdr 0)) fun _ u => u.engine.mode = .setup) ∧
      (ReadyWith booked (.flush (hdr 0)) fun _ u => u.engine.mode = .run ∧ u.engine.records ≠ []) ∧
      (ReadyWith empty (.flush (hdr 0)) fun _ u => u.engine.mode = .run ∧ u.engine.records = []) ∧
      base.engine.mode ≠ .flushing ∧ flushing.engine.mode = .flushing ∧ flushing.engine.records.wf = true ∧
      flushing.engine.records.look 57 = some (bin6100 (.booked 12 210 none none (.armed 1214000)) 5 0 0) ∧
      (∀ m, m < 57 → flushing.engine.records.look m = none) ∧
      flushing.engine.flush = some ⟨hostFrame (hdr 0) 0x25 [], 6⟩ ∧ (hostFrame (hdr 0) 0x25 []).port = .host :=
  ⟨hosts (by decide +kernel), hosts (by decide +kernel), readyWith (by decide +kernel), readyWith (by decide +kernel),
    readyWith (by decide +kernel), by decide +kernel⟩

theorem witness_ResetAndGridClock : Hosts base (.reset (hdr 0)) fun _ => True := hosts (by decide +kernel)

theorem witness_NoticesPostedAndRead :
    (Hosts (full 64) (.noticeRead (hdr 0) 4 4) fun _ => 3 < (4 : Byte).toNat) ∧
      (Hosts (full 64) (.noticeRead (hdr 0) 3 5) fun _ => 4 < (5 : Byte).toNat) ∧
      Hosts (full 64) (.noticeRead (hdr 0) 2 4) fun u => QueueId.ofByte 2 = some .thermal ∧
        (u.notices.queue .thermal).items[3]? = some someNotice ∧ someNotice.bin = none :=
  ⟨hosts (by decide +kernel), hosts (by decide +kernel), hosts (by decide +kernel)⟩

theorem witness_AlertRequests :
    (Hosts base (.alertRead (hdr 0)) fun u => u.notices.enabled = 0) ∧
      (Hosts { full 1 with notices := { (full 1).notices with enabled := 4 } } (.alertRead (hdr 0)) fun u =>
        u.notices.thermal.items.isEmpty = false ∧ u.notices.enabled.getLsbD 2 = true ∧ u.notices.enabled.getLsbD 1 = false) ∧
      (Hosts base (.alertMask (hdr 0) 63) fun _ => True) ∧ (Hosts base (.alertMask (hdr 0) 64) fun _ => True) ∧
      (Hosts (full 1) (.alertClear (hdr 0) 63) fun _ => True) ∧ Hosts base (.alertClear (hdr 0) 255) fun _ => True :=
  ⟨hosts (by decide +kernel), hosts (by decide +kernel), hosts (by decide +kernel), hosts (by decide +kernel),
    hosts (by decide +kernel), hosts (by decide +kernel)⟩

theorem witness_CountersCountAndClear :
    (Hosts base (.counterMask (hdr 0) 3 255 1) fun _ => True) ∧ (Hosts base (.counterMask (hdr 0) 4 0 2) fun _ => True) ∧
      (Hosts base (.counterRead (hdr 0) 15) fun _ => True) ∧ (Hosts base (.counterRead (hdr 0) 16) fun _ => True) ∧
      (Hosts base (.counterClear (hdr 0) 255) fun _ => True) ∧ (Hosts base (.counterClear (hdr 0) 15) fun _ => True) ∧
      Hosts base (.counterClear (hdr 0) 16) fun _ => True :=
  ⟨hosts (by decide +kernel), hosts (by decide +kernel), hosts (by decide +kernel), hosts (by decide +kernel),
    hosts (by decide +kernel), hosts (by decide +kernel), hosts (by decide +kernel)⟩

/-! ### Every step keeps the laws -/

theorem witness_visiting_step : ∃ t, step visiting = .next t ∧ visiting.recordOf ⟨0, 0⟩ = some (exposed 8128 false) ∧
    t.recordOf ⟨0, 0⟩ = some (exposed 9144 true) := ⟨_, rfl, by decide +kernel, by decide +kernel⟩

theorem witness_StepKeepsSlotLaw : ∃ t, visiting.slotLaw ∧ step visiting = .next t :=
  let ⟨t, h, _⟩ := witness_visiting_step; ⟨t, witness_visiting_slotLaw, h⟩
theorem witness_StepKeepsRecordLaw : ∃ t, visiting.slotLaw ∧ step visiting = .next t ∧ visiting.recordLaw ∧
    visiting.planLaw ∧ visiting.laws :=
  let ⟨t, h, _⟩ := witness_visiting_step
  ⟨t, witness_visiting_slotLaw, h, witness_visiting_recordLaw, witness_visiting_planLaw, witness_visiting_laws⟩
theorem witness_StepKeepsPartyLaw : ∃ t, visiting.laws ∧ step visiting = .next t :=
  let ⟨t, h, _⟩ := witness_visiting_step; ⟨t, witness_visiting_laws, h⟩
theorem witness_StepKeepsCellLaw : ∃ t, visiting.laws ∧ step visiting = .next t :=
  let ⟨t, h, _⟩ := witness_visiting_step; ⟨t, witness_visiting_laws, h⟩
theorem witness_StepKeepsQueueLaw : ∃ t, visiting.laws ∧ step visiting = .next t ∧ visiting.queueOrder ∧ visiting.queuesYoung :=
  let ⟨t, h, _⟩ := witness_visiting_step
  ⟨t, witness_visiting_laws, h, by unfold State.queueOrder; decide, by unfold State.queuesYoung; decide⟩
theorem witness_StepKeepsDeadlineLaw : ∃ t, visiting.laws ∧ step visiting = .next t ∧ visiting.deadlineOrder ∧ visiting.timely :=
  let ⟨t, h, _⟩ := witness_visiting_step
  ⟨t, witness_visiting_laws, h, ⟨by decide, by decide, by simp [visiting, exposed, bookedOne, stagedTwo, bin6100, Custody.timing]⟩,
    by unfold State.timely; decide⟩
theorem witness_StepKeepsModeAndBounds :
    ∃ t, visiting.slotLaw ∧ visiting.modeLaw ∧ visiting.boundsLaw ∧ step visiting = .next t :=
  let ⟨t, h, _⟩ := witness_visiting_step
  ⟨t, witness_visiting_slotLaw, witness_visiting_modeLaw, witness_visiting_boundsLaw, h⟩
theorem witness_RecordKeepsIdentity : ∃ t, visiting.slotLaw ∧ visiting.recordLaw ∧ step visiting = .next t ∧
    visiting.recordOf ⟨0, 0⟩ = some (exposed 8128 false) ∧ t.recordOf ⟨0, 0⟩ = some (exposed 9144 true) :=
  let ⟨t, h⟩ := witness_visiting_step; ⟨t, witness_visiting_slotLaw, witness_visiting_recordLaw, h⟩

end Sys2Proof.Tests
end

section
/-! SUPPORT. The state in which a request is served, and the statements on reset. -/

namespace Sys2Proof.Machine

/-! ## The state in which a request is served -/

/-- A request that its port refuses is answered, and no input queue changes. -/
theorem State.present_refused {s : State} {f : Frame} {r : Result} (h : s.ports.refusal f = some r) :
    s.present f = s.sendReply f (refuse r) := by
  simp only [State.present, h]

/-- A request that its port does not refuse joins its input queue. -/
theorem State.present_accepted {s : State} {f : Frame} (h : s.ports.refusal f = none) :
    s.present f = s.modPorts fun p => p.setQueue f.port (p.queue f.port ++ [f]) := by
  simp only [State.present, h]

/-- A reply that leaves adds to the frames sent and changes nothing else. -/
theorem State.sendReply_eq (s : State) (f : Frame) (a : Answer) : ∃ sent, s.sendReply f a = { s with sent := sent } := by
  unfold State.sendReply
  split
  · split <;> exact ⟨_, rfl⟩
  · exact ⟨_, rfl⟩

/-- A request handed over is served in a state that differs from the one before in the Port Unit alone: a refused request is
never the one handed over. -/
theorem State.ready_eq_ports {s u : State} {c : Instr} {f : Frame} (h : s.ready c = some (f, u)) :
    ∃ ports, u = { s with ports := ports } := by
  rw [s.ready_eq (State.ready_frame h)] at h
  by_cases hs : s.ports.nextRequest = some f
  · simp only [hs, if_true] at h
    obtain ⟨-, rfl⟩ := Prod.mk.inj (Option.some.inj h)
    exact ⟨_, rfl⟩
  · simp only [hs, if_false] at h
    cases hr : s.ports.refusal f with
    | none =>
      rw [State.present_accepted hr] at h
      split at h
      · obtain ⟨-, rfl⟩ := Prod.mk.inj (Option.some.inj h)
        exact ⟨_, rfl⟩
      · cases h
    | some r =>
      obtain ⟨sent, hsent⟩ := s.sendReply_eq f (refuse r)
      rw [State.present_refused hr, hsent] at h
      simp [hs] at h

/-- A reply on the management port outside a FLUSH leaves at once. -/
theorem State.sendReply_host {f : Frame} (hp : f.port = .host) (s : State) (a : Answer) :
    s.sendReply f a = s.send (replyFrames f a) := by
  simp only [State.sendReply, hp]

/-- A management reply of one segment is one frame, with segment index 0 and count 1. -/
theorem replyFrames_host {f : Frame} (hp : f.port = .host) (r : Result) (body : List Byte) :
    replyFrames f ⟨r, [body]⟩ = [⟨.host, replyKind f.kind, r.code, f.tag, 1, body⟩] := by
  simp [replyFrames, hp, halfOf]

/-! ## Reset and the grid clock -/

/-- After a reset every slot is free, in ascending order (R4). -/
theorem freeSlots_reset : State.reset.engine.freeSlots = List.range 2048 := by
  simp only [State.reset, Engine.reset, Config.slots]

theorem pendingSet_reset : NoticeUnit.reset.pendingSet = 0 := by decide

theorem overrunSet_reset : NoticeUnit.reset.overrunSet = 0 := by decide

/-- Settles O52. RESET is served outside FLUSHING in a state that only the Port Unit tells from the one before, so that what
stays of it are the commands waiting and the frames sent; the values after the reset are read off `State.reset`. -/
theorem resetAndGridClock : Obligations.ResetAndGridClock := by
  intro s
  refine ⟨fun hd f u ⟨hready, hport, hmode⟩ => ?_, ⟨_, rfl, rfl, ?_⟩, rfl⟩
  · obtain rfl := Option.some.inj (State.ready_frame hready)
    obtain ⟨ports, rfl⟩ := State.ready_eq_ports hready
    have hserve := State.serve_ready hready resetService
    simp only [resetService, hmode, if_false, State.sendReply_host hport, accept, replyFrames_host hport] at hserve
    have hkind : replyKind (hostFrame hd 0x26 []).kind = 0xA6 := by simp [hostFrame, replyKind]
    rw [hkind] at hserve
    exact congrArg Host.Outcome.next hserve
  · refine ⟨rfl, rfl, fun n => rfl, freeSlots_reset, fun n => rfl, fun n => rfl, rfl, rfl, fun l => ?_, rfl, rfl, fun g => rfl, rfl,
      fun n => rfl, rfl, rfl, rfl, rfl, rfl, rfl, rfl, rfl, rfl, fun n => rfl, fun n => ⟨rfl, rfl⟩, fun q => ?_,
      pendingSet_reset, overrunSet_reset, rfl, fun zone slot => rfl⟩
    · cases l <;> rfl
    · cases q <;> rfl

/-! ## The laws after a reset -/

theorem recordOf_reset (h : Handle) : State.reset.recordOf h = none := by
  unfold State.recordOf
  split <;> rfl

theorem slotLaw_reset : State.reset.slotLaw := by
  refine ⟨rfl, rfl, rfl, by simp [State.reset, Engine.reset], by simp [State.reset, Engine.reset], freeSlots_reset ▸ List.nodup_range,
    fun n => ?_, fun b n => ?_, fun b n h => ?_⟩
  · rw [freeSlots_reset]
    simp [State.reset, Engine.reset, Config.slots]
  · simp [State.reset, Engine.reset]
  · cases h

theorem recordLaw_reset : State.reset.recordLaw := by
  refine ⟨by simp [State.reset, Engine.reset], by simp [State.reset], fun c => ?_, by simp [State.reset]⟩
  cases c <;> decide

theorem cellLaw_reset : State.reset.cellLaw :=
  ⟨nofun, by simp [State.reset, Engine.reset]⟩

theorem queueLaw_reset : State.reset.queueLaw := by
  intro g _
  have hq : State.reset.queueOf g = [] := rfl
  refine ⟨by simp [hq], by simp [hq], fun e => ?_⟩
  simp [hq, recordOf_reset]

theorem deadlineLaw_reset : State.reset.deadlineLaw := by
  refine ⟨List.nodup_nil, fun h d kind => ?_, by simp [State.reset, Engine.reset]⟩
  rw [recordOf_reset]
  simp [State.reset]

theorem modeLaw_reset : State.reset.modeLaw := by
  simp [State.modeLaw, State.reset, Engine.reset, DwellUnit.reset]

theorem boundsLaw_reset : State.reset.boundsLaw := by
  have hlink : RobotLink.reset.law := by simp [RobotLink.law, RobotLink.reset]
  refine ⟨rfl, rfl, rfl, rfl, hlink, hlink, by simp [State.reset, DwellUnit.reset], fun port => ?_, fun q => ?_⟩
  · rcases port with (_ | _) | _ <;> exact Nat.zero_le _
  · cases q <;> exact Nat.zero_le _

/-- Settles O56. With no live record, cell, robot, plan or rule the laws hold of every entry there is. -/
theorem resetMeetsLaws : Obligations.ResetMeetsLaws := by
  refine ⟨⟨slotLaw_reset, recordLaw_reset, ?plan, ?mask, ?party, cellLaw_reset, queueLaw_reset, deadlineLaw_reset,
    modeLaw_reset, boundsLaw_reset⟩, fun g _ => List.Pairwise.nil, fun g _ e he => ?young, ?order, ?timely⟩
  case plan => exact ⟨nofun, by simp [State.reset, Engine.reset]⟩
  case mask => simp [State.maskLaw, State.reset, Engine.reset]
  case party => exact ⟨nofun, by simp [State.reset, Engine.reset]⟩
  case young => cases he
  case order => exact ⟨List.Pairwise.nil, by simp [State.reset], by simp [State.reset, Engine.reset]⟩
  case timely => simp [State.timely, State.reset]

end Sys2Proof.Machine
end

section
/-! SUPPORT. The party test, and DECLARE's checks. -/

namespace Sys2Proof.Machine

/-! ## Answers of robot requests -/

/-- A robot request that passes intake answers with what its own checks and effects give. -/
theorem exec_robot {s v : State} {c : Instr} {f : Frame} {n : Nat} {l : Link} {hd : Hdr} {kind : Byte} {body : List Byte}
    {own : Nat → State → State × Answer} (hc : c.frame = some (robotFrame l hd kind body))
    (hexec : exec c s = .next (s.serve c (robotService l hd own))) (ht : s.robotTakes c f n v) {w : State} {a : Answer}
    (how : own n v = (w, a)) : exec c s = .next (w.respond f a) := by
  rw [hexec, State.serve_robot hc ht, how]

/-! ## The party test -/

/-- Each party-tested request runs the handle check and the party test first, with its own kind code. -/
theorem exec_partyRequest {c : Instr} {raw : Half} {need : RecordState} {late : Bool}
    (h : partyRequest c = some (raw, need, late)) :
    ∃ l hd kind body, ∃ own : Nat → State → State × Answer, ∃ go : Nat → State → Handle → Record → State × Answer,
      c.frame = some (robotFrame l hd kind body) ∧ (∀ s, exec c s = .next (s.serve c (robotService l hd own))) ∧
      ∀ n v, own n v = withParty kind need late raw n v (go n v) := by
  cases c <;> simp only [partyRequest, reduceCtorEq] at h
  case book l hd handle cell receiver =>
    split at h
    · next hr =>
      cases h
      have hrange : ¬ (cell.toNat > 1023 ∨ receiver.toNat > 1023) := by omega
      exact ⟨l, hd, 0x02, _, _, _, rfl, fun s => rfl, fun n v => if_neg hrange⟩
    · cases h
  case unbook l hd handle => cases h; exact ⟨l, hd, 0x03, _, _, _, rfl, fun s => rfl, fun n v => rfl⟩
  case setdown l hd handle => cases h; exact ⟨l, hd, 0x04, _, _, _, rfl, fun s => rfl, fun n v => rfl⟩
  case yieldBin l hd handle => cases h; exact ⟨l, hd, 0x07, _, _, _, rfl, fun s => rfl, fun n v => rfl⟩
  case takeup l hd handle => cases h; exact ⟨l, hd, 0x08, _, _, _, rfl, fun s => rfl, fun n v => rfl⟩
  case finish l hd handle outcome => cases h; exact ⟨l, hd, 0x09, _, _, _, rfl, fun s => rfl, fun n v => rfl⟩

section
variable {kind : Byte} {need : RecordState} {late : Bool} {raw : Half} {n : Nat} {s : State}
  {go : Handle → Record → State × Answer}

theorem withParty_stale (hr : s.resolve raw = none) :
    withParty kind need late raw n s go = (s, refuse .staleHandle) := by
  simp only [withParty, hr]

/-- A record in the required state with the robot as its party passes. -/
theorem withParty_passes {h : Handle} {r : Record} (hr : s.resolve raw = some (h, r))
    (hp : r.custody.state = need ∧ r.custody.party = some n) : withParty kind need late raw n s go = go h r := by
  simp only [withParty, hr, partyTest, hp, and_self, if_true]

/-- Any other record is answered LATE with its notice, NOT_PARTY or WRONG_STATE. -/
theorem withParty_fails {h : Handle} {r : Record} (hr : s.resolve raw = some (h, r))
    (hp : ¬ (r.custody.state = need ∧ r.custody.party = some n)) :
    withParty kind need late raw n s go =
      if late = true ∧ r.custody.lapsed = some n then (s.postLate kind n h r, refuse .late)
      else (s, refuse (if r.custody.state = need then .notParty else .wrongState)) := by
  simp only [withParty, hr, partyTest, hp, if_false]
  by_cases hl : late = true ∧ r.custody.lapsed = some n
  · simp only [hl, and_self, if_true]
  · simp only [hl, if_false]
    by_cases hs : r.custody.state = need
    · simp only [hs, if_true]
    · simp only [hs, if_false]

end

/-- Settles O12. Each of the six requests is `withParty` with its kind code, so its answer is that of the party test. -/
theorem partyTestAnswers : Obligations.PartyTestAnswers := by
  intro s c f n v raw need late htakes hreq
  obtain ⟨l, hd, kind, body, own, go, hframe, hexec, hown⟩ := exec_partyRequest hreq
  obtain ⟨u, hready, -⟩ := id htakes
  obtain rfl : robotFrame l hd kind body = f := Option.some.inj (hframe.symm.trans (State.ready_frame hready))
  refine ⟨fun hr => exec_robot hframe (hexec s) htakes ((hown n v).trans (withParty_stale hr)), fun h r hr hp => ?_⟩
  have hfails := (hown n v).trans (withParty_fails hr hp)
  by_cases hl : late = true ∧ r.custody.lapsed = some n
  · rw [if_pos hl] at hfails ⊢
    exact exec_robot hframe (hexec s) htakes hfails
  · rw [if_neg hl] at hfails ⊢
    exact exec_robot hframe (hexec s) htakes hfails

/-! ## DECLARE's checks -/

/-- A byte names a thermal class exactly when it is 0, 1 or 2 (R200). -/
theorem ThermalClass.ofByte_eq_none_iff (b : Byte) : ThermalClass.ofByte b = none ↔ 2 < b.toNat := by
  simp only [ThermalClass.ofByte]
  split
  · simp [*]
  · split
    · simp [*]
    · split
      · simp [*]
      · simp only [true_iff]
        bv_omega

theorem ThermalClass.ofByte_code (tc : ThermalClass) : ThermalClass.ofByte tc.code = some tc := by
  cases tc <;> rfl

/-- What DECLARE does when its checks pass, by the class, the head slot and the rule matched. -/
def declareAccepted (bin : Word) (zone plan wave priority : Byte) (n : Nat) (s : State) (c : ThermalClass) (slot : Nat) :
    State × Answer :=
  let planned := if plan = 255 then none else some plan.toNat
  let prio := min 3 priority.toNat
  let m := s.matchRule (declareKey c zone.toNat prio planned.isSome wave)
  let r := newRecord s n bin.toNat c zone.toNat planned wave prio m
  ((s.takeRule m (fun detail => recordNotice .ruleMatch (s.handleOf slot) r (some n) none zone.toNat detail) false).openRecord
      n slot r,
    accept (be16 (s.handleOf slot).wire ++ [byteOf r.priority, byteOf r.hopLimit] ++ be16 (halfOf r.budget)))

/-- DECLARE's checks in their order, then its effect (R56 to R58). -/
theorem declareRequest_eq (bin : Word) (cls zone plan wave priority : Byte) (n : Nat) (s : State) :
    declareRequest bin cls zone plan wave priority n s =
      if ((s.robot n).bind (·.party)).isSome then (s, refuse .robotBusy)
      else if bin = 0 ∨ 2 < cls.toNat ∨ 15 < zone.toNat then (s, refuse .badField)
      else if plan ≠ 255 ∧ s.plans.look plan.toNat = none then (s, refuse .badPlan)
      else if s.engine.binIndex.look bin.toNat ≠ none then (s, refuse .duplicate)
      else match s.engine.freeSlots, ThermalClass.ofByte cls with
        | slot :: _, some c => declareAccepted bin zone plan wave priority n s c slot
        | _, _ => (s, refuse .tableFull) := by
  have hplan : ((if plan = 255 then none else some plan.toNat : Option Nat).map fun k => (s.plans.look k).isNone) = some true ↔
      plan ≠ 255 ∧ s.plans.look plan.toNat = none := by
    by_cases hp : plan = 255 <;> simp [hp]
  have hbin : (s.engine.binIndex.look bin.toNat).isSome = true ↔ s.engine.binIndex.look bin.toNat ≠ none := by
    simp [Option.isSome_iff_ne_none]
  unfold declareRequest
  by_cases hb : ((s.robot n).bind (·.party)).isSome = true
  · simp only [hb, if_true]
  simp only [hb, hplan, hbin]
  cases hc : ThermalClass.ofByte cls with
  | none =>
    have hcls := (ThermalClass.ofByte_eq_none_iff cls).1 hc
    simp only [hcls, true_or, or_true, if_true]
  | some c =>
    have hcls : ¬ 2 < cls.toNat := fun h => by simp [(ThermalClass.ofByte_eq_none_iff cls).2 h] at hc
    simp only [hcls, false_or, gt_iff_lt]
    cases s.engine.freeSlots <;> rfl

/-- Settles O18, from DECLARE's checks in their order. -/
theorem declareChecksInOrder : Obligations.DeclareChecksInOrder := by
  intro s l hd bin cls zone plan wave priority f n v htakes refused
  have hown : ∀ {w a}, declareRequest bin cls zone plan wave priority n v = (w, a) → _ :=
    exec_robot (c := .declare l hd bin cls zone plan wave priority) rfl rfl htakes
  rw [declareRequest_eq] at hown
  split
  · next h => exact hown (if_pos h)
  · next h =>
    rw [if_neg h] at hown
    split
    · next h => exact hown (if_pos h)
    · next h =>
      rw [if_neg h] at hown
      split
      · next h => exact hown (if_pos h)
      · next h =>
        rw [if_neg h] at hown
        split
        · next h => exact hown (if_pos h)
        · next h =>
          rw [if_neg h] at hown
          intro hfree
          exact hown (by rw [hfree]; rfl)

end Sys2Proof.Machine
end

section
/-! SUPPORT. Changing one entry of a table, and the custody operations written out block by block. -/

namespace Sys2Proof.Machine

/-! ## Changing one entry of a table -/

section
variable {α : Type}

/-- Change the entry of a number, if the table lists one: what the model's changes of a cell, a robot and a plan do. -/
def Table.modify (t : Table α) (n : Nat) (f : α → α) : Table α :=
  match t.look n with
  | some v => t.put n (f v)
  | none => t

theorem Table.modify_of_look {t : Table α} {n : Nat} {v : α} (h : t.look n = some v) (f : α → α) :
    t.modify n f = t.put n (f v) := by
  simp only [Table.modify, h]

theorem Table.modify_of_look_none {t : Table α} {n : Nat} (h : t.look n = none) (f : α → α) : t.modify n f = t := by
  simp only [Table.modify, h]

@[simp] theorem Table.look_modify (t : Table α) (n m : Nat) (f : α → α) :
    (t.modify n f).look m = if m = n then (t.look n).map f else t.look m := by
  cases h : t.look n with
  | none =>
    rw [Table.modify_of_look_none h]
    split
    · next hm => rw [hm, h]; rfl
    · rfl
  | some v =>
    rw [Table.modify_of_look h]
    simp

end

theorem State.modRobot_eq_modify (s : State) (n : Nat) (f : Robot → Robot) :
    s.modRobot n f = s.modEngine fun e => { e with roster := e.roster.modify n f } := by
  rw [State.modRobot_eq]
  simp only [State.modEngine, Table.modify]
  cases s.engine.roster.look n <;> rfl

theorem State.modCell_eq_modify (s : State) (n : Nat) (f : Cell → Cell) :
    s.modCell n f = s.modEngine fun e => { e with cells := e.cells.modify n f } := by
  rw [State.modCell_eq]
  simp only [State.modEngine, Table.modify]
  cases s.engine.cells.look n <;> rfl

theorem State.modPlan_eq_modify (s : State) (n : Nat) (f : Plan → Plan) :
    s.modPlan n f = s.modPlans fun t => t.modify n f := by
  rw [State.modPlan_eq]
  simp only [State.modPlans, Table.modify]
  cases s.plans.look n <;> rfl

/-! ## DECLARE -/

section
variable (s : State) (m : Option (Nat × Rule)) (notice : Byte → Notice) (denied : Bool)

theorem State.takeRule_engine : (s.takeRule m notice denied).engine = s.engine := by
  obtain ⟨rules, notices, h⟩ := s.takeRule_eq m notice denied
  rw [h]

theorem State.takeRule_plans : (s.takeRule m notice denied).plans = s.plans := by
  obtain ⟨rules, notices, h⟩ := s.takeRule_eq m notice denied
  rw [h]

end

/-- A plan's reference count goes up, or down, by one. -/
def Plan.up (p : Plan) : Plan := { p with refs := p.refs + 1 }
def Plan.down (p : Plan) : Plan := { p with refs := p.refs - 1 }

/-- The plans after a record that follows a route, or none, has joined. -/
def plansJoined (plans : Table Plan) : Option Route → Table Plan
  | some route => plans.modify route.plan Plan.up
  | none => plans

/-- The plans after a record that follows a route, or none, has left. -/
def plansLeft (plans : Table Plan) : Option Route → Table Plan
  | some route => plans.modify route.plan Plan.down
  | none => plans

/-- The whole of what the opening of a record writes (R1, R4, R6, R57). -/
theorem State.openRecord_eq (s : State) (n slot : Nat) (r : Record) :
    s.openRecord n slot r =
      { s with
        engine :=
          { s.engine with
            freeSlots := s.engine.freeSlots.tail
            records := s.engine.records.put slot r
            binIndex := s.engine.binIndex.put r.bin slot
            roster := s.engine.roster.modify n fun e => { e with party := some (s.handleOf slot, .carrier) } }
        plans := plansJoined s.plans r.route
        notices :=
          if (s.engine.records.put slot r).length = Config.capacityMark ∧ s.liveCount + 1 = Config.capacityMark then
            { s.notices with capacityEdge := s.notices.capacityEdge.raise }
          else s.notices } := by
  unfold State.openRecord
  simp only [State.setParty, State.modRobot_eq_modify, State.planUp, State.modPlan_eq_modify, State.liveCount,
    State.modEngine_engine]
  by_cases hc : (s.engine.records.put slot r).length = Config.capacityMark ∧ s.engine.records.length + 1 = Config.capacityMark
  · simp only [hc, and_self, if_true]
    cases r.route <;> rfl
  · simp only [hc, if_false]
    cases r.route <;> rfl

theorem Edge.raise_eq (e : Edge) : e.raise = ⟨true, e.overrun || e.pending⟩ := by
  obtain ⟨_ | _, _⟩ := e <;> simp [Edge.raise]

/-- The budget bounded to 1 to 65535, case by case (R161). -/
theorem scaledBudget_eq (d : Nat) (scale : Scale) :
    scaledBudget d scale =
      let scaled := match scale with
        | .halved => d / 2
        | .one => d
        | .two => d * 2
        | .four => d * 4
      if scaled = 0 then 1 else if 65535 < scaled then 65535 else scaled := by
  cases scale <;> simp only [scaledBudget] <;> grind

/-- The key at the DECLARE point, from the request's own bytes (R177). -/
theorem declareKey_eq (tc : ThermalClass) (zone plan wave : Byte) (prio : Nat) :
    declareKey tc zone.toNat prio (if plan = 255 then none else some plan.toNat : Option Nat).isSome wave =
      ⟨0, tc.code, BitVec.ofNat 8 prio, zone, zone, if plan = 255 then 0 else 1, 0, 0, wave⟩ := by
  by_cases hp : plan = 255 <;> simp [declareKey, byteOf, hp, boolByte, flagByte]

/-- The record that DECLARE opens, from the request's own bytes (R9, R57, R161, R182). -/
theorem newRecord_eq (s : State) (n bin : Nat) (tc : ThermalClass) (zone : Nat) (plan wave : Byte) (prio : Nat)
    (m : Option (Nat × Rule)) :
    newRecord s n bin tc zone (if plan = 255 then none else some plan.toNat) wave prio m =
      { bin := bin
        cls := tc
        wave := wave
        priority := max prio ((m.map (·.2.floor)).getD 0)
        originZone := zone
        presentZone := zone
        route := if plan = 255 then none else some ⟨plan.toNat, 0⟩
        hops := 0
        hopLimit :=
          if plan = 255 then (s.dwell.params tc).hopLimit else ((s.plans.look plan.toNat).map (·.legs.length)).getD 0
        exposure := 0
        budget := scaledBudget (s.dwell.params tc).budget ((m.map (·.2.scale)).getD .one)
        warned := false
        overdue := false
        exempt := (m.map (·.2.exempt)).getD false
        rescued := false
        openedAt := s.timer.clock
        custody := .carried n none } := by
  by_cases hp : plan = 255 <;> simp only [newRecord, hp, if_true, if_false] <;> rfl

/-- Settles O17. Past its checks DECLARE is `declareAccepted`, and `State.openRecord_eq` says what that writes. -/
theorem declareOpensRecord : Obligations.DeclareOpensRecord := by
  intro s l hd bin cls zone plan wave priority f n v e tc slot rest htakes hrobot hparty hcode hbin hzone hplan hnew hfree
    prio m h rule cp scaled r w
  have hcls : ThermalClass.ofByte cls = some tc := hcode ▸ ThermalClass.ofByte_code tc
  have howned : ¬ ((v.robot n).bind (·.party)).isSome = true := by simp [hrobot, hparty]
  have hfields : ¬ (bin = 0 ∨ 2 < cls.toNat ∨ 15 < zone.toNat) := by
    rintro (hb | hc | hz)
    · exact hbin hb
    · simp [(ThermalClass.ofByte_eq_none_iff cls).2 hc] at hcls
    · omega
  have hdefined : ¬ (plan ≠ 255 ∧ v.plans.look plan.toNat = none) := by
    rintro ⟨hp, hn⟩
    rcases hplan with hp' | ⟨p, hp'⟩
    · exact hp hp'
    · rw [hn] at hp'; cases hp'
  have hkey : v.matchRule (declareKey tc zone.toNat prio
      (if plan = 255 then none else some plan.toNat : Option Nat).isSome wave) = m := by
    rw [declareKey_eq, hcode]
  have hrecord : newRecord v n bin.toNat tc zone.toNat (if plan = 255 then none else some plan.toNat) wave prio m = r := by
    rw [newRecord_eq, scaledBudget_eq] <;> rfl
  have hrequest : declareRequest bin cls zone plan wave priority n v =
      (w.openRecord n slot r, ⟨.ok, [be16 h.wire ++ [byteOf r.priority, byteOf r.hopLimit] ++ be16 (halfOf r.budget)]⟩) := by
    rw [declareRequest_eq, if_neg howned, if_neg hfields, if_neg hdefined, if_neg (not_not.2 hnew), hfree, hcls]
    simp only [declareAccepted, hkey, prio, hrecord]
    rfl
  refine ⟨w.openRecord n slot r, exec_robot (c := .declare l hd bin cls zone plan wave priority) rfl rfl htakes hrequest, ?_⟩
  have hengine : w.engine = v.engine := State.takeRule_engine v m _ false
  have hplans : w.plans = v.plans := State.takeRule_plans v m _ false
  have hsome : v.engine.roster.look n = some e := hrobot
  rw [State.openRecord_eq]
  refine ⟨?_, ?_, fun k hk => ?_, ?_, fun k hk => ?_, ?_, fun k hk => ?_, fun hp => ?_, fun p hp hlook => ?_, ?_⟩
  · simp only [hengine, hfree, List.tail_cons]
  · simp only [Table.look_put_self]
  · simp only [hengine, Table.look_put_ne _ _ hk]
  · simp only [r, Table.look_put_self]
  · simp only [r, hengine, Table.look_put_ne _ _ hk]
  · simp only [State.robot, hengine, Table.look_modify, if_true, hsome, Option.map_some, State.handleOf, State.generation, h]
  · simp only [hengine, Table.look_modify, if_neg hk]
  · simp only [r, hp, if_true, plansJoined, hplans]
  · simp only [r, hp, if_false, plansJoined, hplans]
    exact ⟨by simp only [Table.look_modify, if_true, hlook, Option.map_some, Plan.up],
      fun k hk => by simp only [Table.look_modify, if_neg hk]⟩
  · simp only [State.liveCount, hengine, Edge.raise_eq, Config.capacityMark, Nat.reduceEqDiff, and_comm]

end Sys2Proof.Machine
end

section
/-! SUPPORT. Retirement and SETDOWN written out block by block. -/

namespace Sys2Proof.Machine

/-! ## Taking a bin off its cell -/

/-- A cell without a handle on its stack, and with one reservation less. -/
def Cell.without (c : Cell) (h : Handle) : Cell := { c with stack := c.stack.filter fun x => x ≠ h }
def Cell.unreserved (c : Cell) : Cell := { c with reserved := c.reserved - 1 }

/-- The cells after a record with some custody has left its place (R23, steps 2 and 3). -/
def cellsLeft (cells : Table Cell) (h : Handle) : Custody → Table Cell
  | .carried .. => cells
  | .booked _ k .. => cells.modify k Cell.unreserved
  | .staged spot _ => cells.modify spot.cell (·.without h)
  | .claimed spot .. => cells.modify spot.cell (·.without h)

/-- The roster after a party, or none, is party to nothing. -/
def rosterFreed (roster : Table Robot) : Option Nat → Table Robot
  | some n => roster.modify n fun e => { e with party := none }
  | none => roster

/-- Uncovering a cell's top bin writes the pickup queues alone. -/
theorem State.uncover_eq (s : State) (n : Nat) : s.uncover n = { s with pickup := (s.uncover n).pickup } := by
  unfold State.uncover
  split
  · rfl
  · split
    · rfl
    · split
      · exact State.enter_eq ..
      · rfl

theorem State.unstack_eq (s : State) (n : Nat) (h : Handle) :
    s.unstack n h =
      { s with
        engine := { s.engine with cells := s.engine.cells.modify n (·.without h) }
        pickup := (s.unstack n h).pickup } := by
  unfold State.unstack
  rw [State.modCell_eq_modify]
  by_cases ht : s.cellTop n = some h
  · simp only [ht, if_true]
    rw [State.uncover_eq]
    rfl
  · simp only [ht, if_false]
    rfl

theorem State.leaveCell_eq (s : State) (h : Handle) (c : Custody) :
    s.leaveCell h c =
      { s with
        engine := { s.engine with cells := cellsLeft s.engine.cells h c }
        pickup := (s.leaveCell h c).pickup } := by
  cases c with
  | carried => rfl
  | booked => simp only [State.leaveCell, State.unreserve, State.modCell_eq_modify]; rfl
  | staged => exact State.unstack_eq ..
  | claimed => exact State.unstack_eq ..

/-! ## Retirement -/

/-- Retirement up to its close check: the blocks as step 8 of R23 leaves them. -/
def State.retired (s : State) (h : Handle) (r : Record) (pickup : Table (List PickupEntry)) : State :=
  { s with
    engine :=
      { s.engine with
        records := s.engine.records.del h.slot
        gens := s.engine.gens.putD 0 h.slot ((s.generation h.slot + 1) % 16)
        freeSlots := s.engine.freeSlots ++ [h.slot]
        binIndex := s.engine.binIndex.del r.bin
        cells := cellsLeft s.engine.cells h r.custody
        roster := rosterFreed s.engine.roster r.custody.party }
    pickup := pickup
    timer := { s.timer with list := s.timer.list.filter fun d => d.handle ≠ h }
    plans := plansLeft s.plans r.route }

/-- The state in which retirement takes the record off its cell: its bin ID has left the Bin Index. -/
def State.unindexed (s : State) (bin : Nat) : State := s.modEngine fun e => { e with binIndex := e.binIndex.del bin }

/-- The whole of what a retirement writes (R23). -/
theorem State.retire_eq (s : State) (h : Handle) (r : Record) :
    s.retire h r =
      let t := s.retired h r (((s.unindexed r.bin).leaveCell h r.custody).leave h).pickup
      match r.custody.cell with
      | some n => t.closeCheck n
      | none => t := by
  obtain ⟨left, hleft⟩ : ∃ pk, (s.unindexed r.bin).leaveCell h r.custody = { s.unindexed r.bin with
      engine := { (s.unindexed r.bin).engine with cells := cellsLeft s.engine.cells h r.custody }
      pickup := pk } := ⟨_, State.leaveCell_eq ..⟩
  obtain ⟨pk, hpk⟩ : ∃ pk, ((s.unindexed r.bin).leaveCell h r.custody).leave h =
      { (s.unindexed r.bin).leaveCell h r.custody with pickup := pk } := ⟨_, State.leave_eq ..⟩
  unfold State.retire
  simp only [State.setParty, State.modRobot_eq_modify, State.planDown, State.modPlan_eq_modify]
  rw [show s.modEngine (fun e => { e with binIndex := e.binIndex.del r.bin }) = s.unindexed r.bin from rfl, hpk, hleft]
  unfold State.retired
  cases r.custody.party <;> cases r.route <;> cases r.custody.cell <;> rfl

/-- The plans after a departure, by whether the record's plan is defined. -/
theorem plansLeft_eq (plans : Table Plan) (route : Option Route) :
    plansLeft plans route =
      match route.bind fun p => (plans.look p.plan).map fun q => (p.plan, q) with
      | some (i, q) => plans.put i { q with refs := q.refs - 1 }
      | none => plans := by
  cases route with
  | none => rfl
  | some p => cases h : plans.look p.plan <;> simp [plansLeft, Table.modify, Plan.down, h]

/-- The roster after a party is freed, by whether the party is enrolled. -/
theorem rosterFreed_eq (roster : Table Robot) (party : Option Nat) :
    rosterFreed roster party =
      match party.bind fun n => (roster.look n).map fun e => (n, e) with
      | some (n, e) => roster.put n { e with party := none }
      | none => roster := by
  cases party with
  | none => rfl
  | some n => cases h : roster.look n <;> simp [rosterFreed, Table.modify, h]

/-- The cells after a CARRIED or BOOKED record has left, by whether it has a cell that is defined. -/
theorem cellsLeft_eq (cells : Table Cell) (h : Handle) (c : Custody) (hc : c.state = .carried ∨ c.state = .booked) :
    cellsLeft cells h c =
      match c.cell.bind fun k => (cells.look k).map fun x => (k, x) with
      | some (k, x) => cells.put k { x with reserved := x.reserved - 1 }
      | none => cells := by
  cases c with
  | carried => rfl
  | booked n k =>
    cases hk : cells.look k <;> simp [cellsLeft, Table.modify, Cell.unreserved, Custody.cell, hk]
  | staged => simp [Custody.state] at hc
  | claimed => simp [Custody.state] at hc

/-- A CARRIED or BOOKED record is in no stack, so that leaving its cell changes no pickup queue. -/
theorem State.leaveCell_pickup (s : State) (h : Handle) (c : Custody) (hc : c.state = .carried ∨ c.state = .booked) :
    (s.leaveCell h c).pickup = s.pickup := by
  cases c with
  | carried => rfl
  | booked => simp only [State.leaveCell, State.unreserve, State.modCell_eq_modify, State.modEngine_pickup]
  | staged => simp [Custody.state] at hc
  | claimed => simp [Custody.state] at hc

/-- The stage sequence counter is no part of what leaving a cell writes. -/
theorem State.leaveCell_stageSeq (s : State) (h : Handle) (c : Custody) :
    (s.leaveCell h c).engine.stageSeq = s.engine.stageSeq := by
  rw [State.leaveCell_eq]

/-- A STAGED or CLAIMED record leaves its cell by leaving the stack. -/
theorem State.leaveCell_of_spot (s : State) (h : Handle) {c : Custody} {spot : Spot} (hs : c.spot = some spot) :
    s.leaveCell h c = s.unstack spot.cell h := by
  cases c <;> cases hs <;> rfl

theorem cellsLeft_of_spot (cells : Table Cell) (h : Handle) {c : Custody} {spot : Spot} (hs : c.spot = some spot) :
    cellsLeft cells h c = cells.modify spot.cell (·.without h) := by
  cases c <;> cases hs <;> rfl

theorem Custody.cell_of_spot {c : Custody} {spot : Spot} (hs : c.spot = some spot) : c.cell = some spot.cell := by
  cases c <;> cases hs <;> rfl

/-- The queues after a bin has left its stack: those an enter of the bin now on top leaves, when it was the top and that bin
is STAGED (R102). -/
theorem State.unstack_of_cell (s : State) (n : Nat) (h : Handle) {c : Cell} (hc : s.cell n = some c) :
    s.unstack n h =
      let w := s.modEngine fun e => { e with cells := e.cells.put n (c.without h) }
      if c.stack.getLast? = some h then
        match (c.without h).stack.getLast?.bind fun b => (s.recordOf b).map fun rb => (b, rb) with
        | some (b, rb) => match rb.custody with
          | .staged u _ => w.enter b u.mask rb.priority u.seq
          | _ => w
        | none => w
      else w := by
  have hlook : s.engine.cells.look n = some c := hc
  have hmod : s.modCell n (fun c => c.without h) = s.modEngine fun e => { e with cells := e.cells.put n (c.without h) } := by
    rw [State.modCell_eq_modify]
    simp only [State.modEngine, Table.modify_of_look hlook]
  have htop : s.cellTop n = c.stack.getLast? := by simp only [State.cellTop, hc, Option.bind_some]
  have hnow : (s.modEngine fun e => { e with cells := e.cells.put n (c.without h) }).cellTop n =
      (c.without h).stack.getLast? := by
    simp [State.cellTop, State.cell]
  unfold State.unstack
  simp only [htop]
  rw [show (fun c : Cell => { c with stack := c.stack.filter fun x => x ≠ h }) = fun c => c.without h from rfl, hmod]
  by_cases ht : c.stack.getLast? = some h
  · simp only [ht, if_true, State.uncover, hnow]
    cases hb : (c.without h).stack.getLast? with
    | none => rfl
    | some b =>
      have hrec : (s.modEngine fun e => { e with cells := e.cells.put n (c.without h) }).recordOf b = s.recordOf b := rfl
      simp only [hrec, Option.bind_some]
      cases s.recordOf b <;> rfl
  · simp only [ht, if_false]

/-- Settles O30, from `State.retire_eq`: a CARRIED or BOOKED record is on no stack; of a STAGED or CLAIMED one
`State.unstack_of_cell` gives the queues. -/
theorem retirementOfARecord : Obligations.RetirementOfARecord := by
  constructor
  · intro s h r n e hrobot hparty hstate cells plans t
    have hretired : s.retired h r (((s.unindexed r.bin).leaveCell h r.custody).leave h).pickup = t := by
      have hpick : (((s.unindexed r.bin).leaveCell h r.custody).leave h).pickup = (s.leave h).pickup :=
        State.leave_pickup _ _ _ (State.leaveCell_pickup _ _ _ hstate) (State.leaveCell_stageSeq ..)
      have hroster : rosterFreed s.engine.roster r.custody.party = s.engine.roster.put n { e with party := none } := by
        rw [hparty]
        exact Table.modify_of_look hrobot _
      simp only [State.retired, hpick, hroster, plansLeft_eq, cellsLeft_eq _ _ _ hstate]
      rfl
    rw [State.retire_eq, hretired] <;> rfl
  · intro s h r spot c hspot hcell w under x plans roster
    have hcells : cellsLeft s.engine.cells h r.custody = s.engine.cells.put spot.cell (c.without h) :=
      (cellsLeft_of_spot _ _ hspot).trans (Table.modify_of_look hcell _)
    have hpick : (((s.unindexed r.bin).leaveCell h r.custody).leave h).pickup = (x.leave h).pickup := by
      rw [State.leaveCell_of_spot _ _ hspot, State.unstack_of_cell (s.unindexed r.bin) _ _ hcell]
      rfl
    rw [State.retire_eq, hpick, Custody.cell_of_spot hspot]
    simp only [State.retired, hcells, plansLeft_eq, rosterFreed_eq]
    rfl

/-! ## SETDOWN -/

/-- The counter advances and the bin on top of a cell, if there is one, leaves the queues: how a SETDOWN there begins. -/
def State.buried (s : State) (top : Option Handle) : State :=
  let w : State := { s with engine := { s.engine with stageSeq := s.engine.stageSeq + 1 } }
  match top with
  | some t => w.leave t
  | none => w

theorem State.buried_eq (s : State) (top : Option Handle) :
    ∃ pickup, s.buried top =
      { s with engine := { s.engine with stageSeq := s.engine.stageSeq + 1 }, pickup := pickup } := by
  cases top with
  | none => exact ⟨_, rfl⟩
  | some t => exact ⟨_, State.leave_eq _ _⟩

/-- The whole of what the staging of a record writes (R34, R65, R99). -/
theorem State.stageRecord_eq (s : State) (h : Handle) (r : Record) (carrier k : Nat) (receiver : Option Nat) (mask : Byte) :
    s.stageRecord h r carrier k receiver mask =
      State.countEvent (State.enter
        { s.buried (s.cellTop k) with
          engine :=
            { s.engine with
              stageSeq := s.engine.stageSeq + 1
              records := s.engine.records.put h.slot
                { r with
                  presentZone := s.cellZone k
                  custody := .staged ⟨carrier, k, s.engine.stageSeq, mask, receiver⟩ none }
              cells := s.engine.cells.modify k fun c => { c with stack := c.stack ++ [h], reserved := c.reserved - 1 }
              roster := s.engine.roster.modify carrier fun e => { e with party := none } }
          timer := { s.timer with list := s.timer.list.filter fun d => d.handle ≠ h } } h mask r.priority s.engine.stageSeq)
        .staged (s.cellZone k) 0 := by
  have hstage : s.stageRecord h r carrier k receiver mask =
      State.countEvent (State.enter
        (((((s.buried (s.cellTop k)).modCell k fun c =>
          { c with stack := c.stack ++ [h], reserved := c.reserved - 1 }).disarm h).setParty carrier none).putRecord h.slot
            { r with
              presentZone := s.cellZone k
              custody := .staged ⟨carrier, k, s.engine.stageSeq, mask, receiver⟩ none }) h mask r.priority s.engine.stageSeq)
        .staged (s.cellZone k) 0 := by
    unfold State.stageRecord State.buried
    cases s.cellTop k <;> rfl
  obtain ⟨pk, hpk⟩ := s.buried_eq (s.cellTop k)
  rw [hstage, hpk]
  simp only [State.modCell_eq_modify, State.setParty, State.modRobot_eq_modify]
  rfl

/-- The mask that SETDOWN gives, with the cell at hand (R14). -/
theorem State.setdownMask_eq (s : State) (r : Record) {k : Nat} {c : Cell} (ov : Option Byte) (hc : s.cell k = some c) :
    s.setdownMask r k ov = (ov <|> (r.route.bind s.legOf).map (·.mask)).getD c.accept := by
  unfold State.setdownMask
  cases ov with
  | some m => rfl
  | none => cases hl : r.route.bind s.legOf <;> simp [hc]

/-- SETDOWN of a record that is BOOKED by the robot (R64 to R66). -/
theorem setdownRequest_eq {s : State} {handle : Half} {h : Handle} {r : Record} {n k : Nat} {receiver : Option Nat}
    {ov : Option Byte} {timing : Timing} (hresolve : s.resolve handle = some (h, r))
    (hcustody : r.custody = .booked n k receiver ov timing) :
    setdownRequest handle n s =
      if s.topClaimed k then (s, refuse .coversClaim)
      else
        let t := s.stageRecord h r n k receiver (s.setdownMask r k ov)
        (t, accept (be16 h.wire ++ [smallField (t.position k h), s.setdownMask r k ov] ++ be32 s.engine.stageSeq)) := by
  have hpasses : r.custody.state = .booked ∧ r.custody.party = some n := by rw [hcustody]; exact ⟨rfl, rfl⟩
  unfold setdownRequest
  rw [withParty_passes hresolve hpasses]
  simp only [hcustody]

/-- A handle put on a stack that does not hold it stands at the place that was the stack's length. -/
theorem findIdx?_append_self {stack : List Handle} {h : Handle} (hn : h ∉ stack) :
    (stack ++ [h]).findIdx? (· == h) = some stack.length := by
  have hstack : stack.findIdx? (· == h) = none := by
    simp only [List.findIdx?_eq_none_iff, beq_eq_false_iff_ne]
    rintro x hx rfl
    exact hn hx
  simp [List.findIdx?_append, hstack]

/-- Settles O23. SETDOWN passes the party test; the top of the cell decides between the refusal and the staging. -/
theorem setdownStagesRecord : Obligations.SetdownStagesRecord := by
  intro s l hd handle f n v h r k receiver ov timing c e htakes hresolve hcustody hcell hrobot top
  have htop : v.cellTop k = c.stack.getLast? := by simp only [State.cellTop, hcell, Option.bind_some]
  have hclaimed : v.topClaimed k = true ↔ top.map (·.custody.state) = some .claimed := by
    simp only [State.topClaimed, htop, top]
    cases c.stack.getLast?.bind v.recordOf <;> simp
  have hrequest := setdownRequest_eq hresolve hcustody
  refine ⟨fun hc => ?_, fun hc => ?_⟩
  · rw [if_pos (hclaimed.2 hc)] at hrequest
    exact exec_robot (c := .setdown l hd handle) rfl rfl htakes hrequest
  · intro seq mask w x t position
    refine ⟨fun hn => by simp only [position, findIdx?_append_self hn, smallField, Option.getD_some], ?_⟩
    have hzone : v.cellZone k = c.zone := by simp [State.cellZone, hcell]
    have hmask : v.setdownMask r k ov = mask := State.setdownMask_eq v r ov hcell
    have hstage : v.stageRecord h r n k receiver mask = t := by
      rw [State.stageRecord_eq, htop, hzone, Table.modify_of_look hcell,
        Table.modify_of_look hrobot]
      rfl
    have hposition : smallField (t.position k h) = position := by
      simp only [t, position, State.position, State.cell, State.countEvent, State.modNotices_engine]
      rw [State.enter_eq]
      simp only [Table.look_put_self, Option.bind_some]
    rw [if_neg (mt hclaimed.1 hc)] at hrequest
    simp only [hmask, hstage, hposition] at hrequest
    exact exec_robot (c := .setdown l hd handle) rfl rfl htakes hrequest

end Sys2Proof.Machine
end

section
/-! SUPPORT. What a command leaves alone: the blocks of the custody tables, and the ranges of what the host sets. -/

namespace Sys2Proof.Machine

/-! ## Members of a table -/

section
variable {α β : Type}

theorem Table.mem_of_look {t : Table α} {n : Nat} {v : α} (h : t.look n = some v) : (n, v) ∈ t := by
  induction t with
  | nil => cases h
  | cons p t ih =>
    obtain ⟨k, w⟩ := p
    simp only [Table.look] at h
    split at h
    · next hk => cases h; rw [hk]; exact List.mem_cons_self
    · exact List.mem_cons_of_mem _ (ih h)

theorem Table.mem_put {t : Table α} {n : Nat} {v : α} {p : Nat × α} (h : p ∈ t.put n v) : p = (n, v) ∨ p ∈ t := by
  induction t with
  | nil => exact .inl (List.mem_singleton.1 h)
  | cons q t ih =>
    simp only [Table.put] at h
    split at h
    · exact List.mem_cons.1 h
    · split at h
      · exact (List.mem_cons.1 h).imp_right (List.mem_cons_of_mem _)
      · rcases List.mem_cons.1 h with rfl | h
        · exact .inr List.mem_cons_self
        · exact (ih h).imp_right (List.mem_cons_of_mem _)

theorem Table.mem_del {t : Table α} {n : Nat} {p : Nat × α} (h : p ∈ t.del n) : p ∈ t :=
  List.mem_of_mem_filter h

theorem Table.mem_putD [DecidableEq α] {d : α} {t : Table α} {n : Nat} {v : α} {p : Nat × α} (h : p ∈ t.putD d n v) :
    p = (n, v) ∨ p ∈ t := by
  unfold Table.putD at h
  split at h
  · exact .inr (Table.mem_del h)
  · exact Table.mem_put h

/-- Every entry of the second table has, in the part that `g` shows, an original in the first. -/
def Table.Derives (g : α → β) (a b : Table α) : Prop := ∀ p ∈ b, ∃ q ∈ a, g q.2 = g p.2

theorem Table.Derives.refl (g : α → β) (a : Table α) : Table.Derives g a a := fun p hp => ⟨p, hp, rfl⟩

theorem Table.Derives.trans {g : α → β} {a b c : Table α} (hab : Table.Derives g a b) (hbc : Table.Derives g b c) :
    Table.Derives g a c := fun p hp =>
  let ⟨q, hq, e⟩ := hbc p hp
  let ⟨q', hq', e'⟩ := hab q hq
  ⟨q', hq', e'.trans e⟩

/-- A change of one entry that leaves what `g` shows. -/
theorem Table.Derives.modify {g : α → β} {f : α → α} (hf : ∀ x, g (f x) = g x) (a : Table α) (n : Nat) :
    Table.Derives g a (a.modify n f) := by
  intro p hp
  cases h : a.look n with
  | none => rw [Table.modify_of_look_none h] at hp; exact ⟨p, hp, rfl⟩
  | some v =>
    rw [Table.modify_of_look h] at hp
    rcases Table.mem_put hp with rfl | hp
    · exact ⟨_, Table.mem_of_look h, (hf v).symm⟩
    · exact ⟨p, hp, rfl⟩

/-- What holds of every entry by what `g` shows holds of a table that derives from it. -/
theorem Table.Derives.forall {g : α → β} {a b : Table α} (h : Table.Derives g a b) {P : β → Prop}
    (ha : ∀ p ∈ a, P (g p.2)) : ∀ p ∈ b, P (g p.2) := fun p hp =>
  let ⟨q, hq, e⟩ := h p hp
  e ▸ ha q hq

end

/-! ## The ranges of what the host sets -/

/-- What the host sets is in range in the second state as far as it was in the first: leg counts and masks of the plans,
accept masks of the cells, floors and overrides of the rules, hop limits of the classes, windows of the links. -/
structure State.RangesKept (s t : State) : Prop where
  legCounts : (∀ p ∈ s.plans, 1 ≤ p.2.legs.length ∧ p.2.legs.length ≤ 8) →
    ∀ p ∈ t.plans, 1 ≤ p.2.legs.length ∧ p.2.legs.length ≤ 8
  legMasks : (∀ p ∈ s.plans, ∀ l ∈ p.2.legs, l.mask ≠ 0) → ∀ p ∈ t.plans, ∀ l ∈ p.2.legs, l.mask ≠ 0
  accepts : (∀ p ∈ s.engine.cells, p.2.accept ≠ 0) → ∀ p ∈ t.engine.cells, p.2.accept ≠ 0
  floors : (∀ p ∈ s.rules, p.2.floor ≤ 3) → ∀ p ∈ t.rules, p.2.floor ≤ 3
  overrides : (∀ p ∈ s.rules, p.2.overrides = true → p.2.overrideMask ≠ 0) →
    ∀ p ∈ t.rules, p.2.overrides = true → p.2.overrideMask ≠ 0
  hopLimits : (∀ c, 1 ≤ (s.dwell.params c).hopLimit ∧ (s.dwell.params c).hopLimit ≤ 15) →
    ∀ c, 1 ≤ (t.dwell.params c).hopLimit ∧ (t.dwell.params c).hopLimit ≤ 15
  windows : (∀ l, (s.ports.robotLink l).bookWindow ≤ 255 ∧ (s.ports.robotLink l).claimWindow ≤ 255) →
    ∀ l, (t.ports.robotLink l).bookWindow ≤ 255 ∧ (t.ports.robotLink l).claimWindow ≤ 255

theorem State.RangesKept.trans {s t u : State} (h : s.RangesKept t) (k : t.RangesKept u) : s.RangesKept u :=
  ⟨k.legCounts ∘ h.legCounts, k.legMasks ∘ h.legMasks, k.accepts ∘ h.accepts, k.floors ∘ h.floors,
    k.overrides ∘ h.overrides, k.hopLimits ∘ h.hopLimits, k.windows ∘ h.windows⟩

/-- The rules, classes and links as they were, and plans and cells that keep their legs and accept masks. -/
theorem State.RangesKept.of_derives {s t : State} (hplans : Table.Derives Plan.legs s.plans t.plans)
    (hcells : Table.Derives Cell.accept s.engine.cells t.engine.cells) (hrules : t.rules = s.rules)
    (hdwell : t.dwell = s.dwell) (hports : t.ports = s.ports) : s.RangesKept t :=
  ⟨fun h => hplans.forall (P := fun legs => 1 ≤ legs.length ∧ legs.length ≤ 8) h,
    fun h => hplans.forall (P := fun legs => ∀ l ∈ legs, l.mask ≠ 0) h, fun h => hcells.forall (P := (· ≠ 0)) h,
    hrules ▸ id, hrules ▸ id, hdwell ▸ id, hports ▸ id⟩

/-- Plans, cells, rules, classes and links as they were. -/
theorem State.RangesKept.of_eq {s t : State} (hplans : t.plans = s.plans) (hcells : t.engine.cells = s.engine.cells)
    (hrules : t.rules = s.rules) (hdwell : t.dwell = s.dwell) (hports : t.ports = s.ports) : s.RangesKept t :=
  .of_derives (hplans ▸ .refl _ _) (hcells ▸ .refl _ _) hrules hdwell hports

theorem State.RangesKept.refl (s : State) : s.RangesKept s := .of_eq rfl rfl rfl rfl rfl

/-! ## Quiet changes -/

/-- The blocks that the laws of the Handover Table and of the deadline list speak of. -/
structure CustodyView where
  records : Table Record
  gens : Table Nat
  freeSlots : List Nat
  binIndex : Table Nat
  stageSeq : Word
  cells : Table Cell
  roster : Table Robot
  pickup : Table (List PickupEntry)
  timer : DeadlineTimer
  plans : Table Plan
  upA : Bool
  upB : Bool

def State.custodyView (s : State) : CustodyView :=
  ⟨s.engine.records, s.engine.gens, s.engine.freeSlots, s.engine.binIndex, s.engine.stageSeq, s.engine.cells,
    s.engine.roster, s.pickup, s.timer, s.plans, s.ports.linkA.up, s.ports.linkB.up⟩

/-- A change that no law of the Handover Table or of the deadline list sees: frames, queues, notices, zones, modes, and
settings that stay in range. -/
structure State.Quiet (s t : State) : Prop where
  view : t.custodyView = s.custodyView
  ranges : s.RangesKept t

namespace State.Quiet

variable {s t u : State}

theorem refl (s : State) : s.Quiet s := ⟨rfl, .refl s⟩

theorem trans (h : s.Quiet t) (k : t.Quiet u) : s.Quiet u := ⟨k.view.trans h.view, h.ranges.trans k.ranges⟩

theorem records (h : s.Quiet t) : t.engine.records = s.engine.records := congrArg CustodyView.records h.view
theorem gens (h : s.Quiet t) : t.engine.gens = s.engine.gens := congrArg CustodyView.gens h.view
theorem freeSlots (h : s.Quiet t) : t.engine.freeSlots = s.engine.freeSlots := congrArg CustodyView.freeSlots h.view
theorem binIndex (h : s.Quiet t) : t.engine.binIndex = s.engine.binIndex := congrArg CustodyView.binIndex h.view
theorem cells (h : s.Quiet t) : t.engine.cells = s.engine.cells := congrArg CustodyView.cells h.view
theorem roster (h : s.Quiet t) : t.engine.roster = s.engine.roster := congrArg CustodyView.roster h.view
theorem timer (h : s.Quiet t) : t.timer = s.timer := congrArg CustodyView.timer h.view
theorem plans (h : s.Quiet t) : t.plans = s.plans := congrArg CustodyView.plans h.view

theorem linkUp (h : s.Quiet t) (l : Link) : t.linkUp l = s.linkUp l := by
  cases l
  · exact congrArg CustodyView.upA h.view
  · exact congrArg CustodyView.upB h.view

theorem recordOf (h : s.Quiet t) (x : Handle) : t.recordOf x = s.recordOf x := by
  unfold State.recordOf State.generation
  rw [h.gens, h.records]

theorem robot (h : s.Quiet t) (n : Nat) : t.robot n = s.robot n := by simp only [State.robot, h.roster]

end State.Quiet

section
variable (s : State)

theorem State.quiet_modNotices (f : NoticeUnit → NoticeUnit) : s.Quiet (s.modNotices f) := ⟨rfl, .of_eq rfl rfl rfl rfl rfl⟩

theorem State.quiet_post (q : QueueId) (n : Notice) : s.Quiet (s.post q n) := s.quiet_modNotices _

theorem State.quiet_countEvent (e : EventKind) (zone amount : Nat) : s.Quiet (s.countEvent e zone amount) :=
  s.quiet_modNotices _

theorem State.quiet_sendReply (f : Frame) (a : Answer) : s.Quiet (s.sendReply f a) := by
  obtain ⟨sent, h⟩ := s.sendReply_eq f a
  rw [h]
  exact ⟨rfl, .of_eq rfl rfl rfl rfl rfl⟩

/-- A change of the Port Unit that leaves each link's state and keeps the windows in range. -/
theorem State.quiet_modPorts (f : PortUnit → PortUnit)
    (hup : ∀ l, ((f s.ports).robotLink l).up = (s.ports.robotLink l).up)
    (hwindows : (∀ l, (s.ports.robotLink l).bookWindow ≤ 255 ∧ (s.ports.robotLink l).claimWindow ≤ 255) →
      ∀ l, ((f s.ports).robotLink l).bookWindow ≤ 255 ∧ ((f s.ports).robotLink l).claimWindow ≤ 255) :
    s.Quiet (s.modPorts f) := by
  refine ⟨?_, ⟨id, id, id, id, id, id, hwindows⟩⟩
  have ha : (f s.ports).linkA.up = s.ports.linkA.up := hup .a
  have hb : (f s.ports).linkB.up = s.ports.linkB.up := hup .b
  simp only [State.custodyView, State.modPorts, ha, hb]

/-- A change of the Port Unit that leaves each link but for its input queue, silence timer and mirror. -/
theorem State.quiet_modPorts_of_settings (f : PortUnit → PortUnit)
    (h : ∀ l, ((f s.ports).robotLink l).up = (s.ports.robotLink l).up ∧
      ((f s.ports).robotLink l).bookWindow = (s.ports.robotLink l).bookWindow ∧
      ((f s.ports).robotLink l).claimWindow = (s.ports.robotLink l).claimWindow) : s.Quiet (s.modPorts f) :=
  s.quiet_modPorts f (fun l => (h l).1) fun hw l => by rw [(h l).2.1, (h l).2.2]; exact hw l

theorem PortUnit.robotLink_setQueue (p : PortUnit) (port : Port) (q : List Frame) (l : Link) :
    ((p.setQueue port q).robotLink l).up = (p.robotLink l).up ∧
      ((p.setQueue port q).robotLink l).bookWindow = (p.robotLink l).bookWindow ∧
      ((p.setQueue port q).robotLink l).claimWindow = (p.robotLink l).claimWindow := by
  rcases port with (_ | _) | _ <;> cases l <;> exact ⟨rfl, rfl, rfl⟩

theorem State.quiet_present (f : Frame) : s.Quiet (s.present f) := by
  cases h : s.ports.refusal f with
  | some r => rw [State.present_refused h]; exact s.quiet_sendReply _ _
  | none =>
    rw [State.present_accepted h]
    exact s.quiet_modPorts_of_settings _ fun l => s.ports.robotLink_setQueue _ _ l

theorem State.quiet_take : s.Quiet (s.modPorts PortUnit.take) := by
  refine s.quiet_modPorts_of_settings _ fun l => ?_
  unfold PortUnit.take
  split
  · next port _ =>
    have hset := s.ports.robotLink_setQueue port (s.ports.queue port).tail l
    cases l <;> exact hset
  · exact ⟨rfl, rfl, rfl⟩

theorem State.quiet_respond (f : Frame) (a : Answer) : s.Quiet (s.respond f a) := by
  unfold State.respond
  split
  · exact s.quiet_modPorts_of_settings _ fun l => by cases l <;> exact ⟨rfl, rfl, rfl⟩
  · exact s.quiet_sendReply _ _

/-- A rule that keeps its floor and override in range. -/
theorem State.quiet_putRule (n : Nat) (r : Rule) (hfloor : (∀ p ∈ s.rules, p.2.floor ≤ 3) → r.floor ≤ 3)
    (hover : (∀ p ∈ s.rules, p.2.overrides = true → p.2.overrideMask ≠ 0) → r.overrides = true → r.overrideMask ≠ 0) :
    s.Quiet (s.putRule n r) :=
  ⟨rfl, ⟨id, id, id,
    fun h p hp => (Table.mem_putD hp).elim (fun e => e ▸ hfloor h) (h p),
    fun h p hp => (Table.mem_putD hp).elim (fun e => e ▸ hover h) (h p), id, id⟩⟩

theorem State.matchRule_mem {s : State} {k : Key} {p : Nat × Rule} (h : s.matchRule k = some p) : p ∈ s.rules :=
  List.mem_of_find?_eq_some h

theorem State.quiet_takeRule (m : Option (Nat × Rule)) (hm : ∀ p, m = some p → p ∈ s.rules) (notice : Byte → Notice)
    (denied : Bool) : s.Quiet (s.takeRule m notice denied) := by
  cases m with
  | none => exact .refl s
  | some p =>
    obtain ⟨n, r⟩ := p
    have hput : s.Quiet (s.putRule n { r with hit := true, notifyOnce := r.notifyOnce && r.notifyAlways }) :=
      s.quiet_putRule n _ (fun h => h _ (hm _ rfl)) fun h => h _ (hm _ rfl)
    simp only [State.takeRule]
    split
    · exact hput.trans (State.quiet_post _ _ _)
    · exact hput

/-- A change of the Dwell Unit that keeps the hop limits of the classes in range. -/
theorem State.quiet_modDwell (f : DwellUnit → DwellUnit)
    (h : (∀ c, 1 ≤ (s.dwell.params c).hopLimit ∧ (s.dwell.params c).hopLimit ≤ 15) →
      ∀ c, 1 ≤ ((f s.dwell).params c).hopLimit ∧ ((f s.dwell).params c).hopLimit ≤ 15) : s.Quiet (s.modDwell f) :=
  ⟨rfl, ⟨id, id, id, id, id, h, id⟩⟩

/-- A change of the Dwell Unit that leaves the classes. -/
theorem State.quiet_modDwell_of_params (f : DwellUnit → DwellUnit) (h : (f s.dwell).params = s.dwell.params) :
    s.Quiet (s.modDwell f) := s.quiet_modDwell f fun hc => by rw [h]; exact hc

/-- A change of the device mode, the FLUSH in progress, the miss limit or the events raised. -/
theorem State.quiet_modEngine (f : Engine → Engine)
    (h : f s.engine = { s.engine with
      mode := (f s.engine).mode, missLimit := (f s.engine).missLimit, flush := (f s.engine).flush,
      expiries := (f s.engine).expiries, overdues := (f s.engine).overdues }) : s.Quiet (s.modEngine f) := by
  have hview : (s.modEngine f).custodyView = s.custodyView := by
    simp only [State.custodyView, State.modEngine]
    rw [h]
  exact ⟨hview, .of_eq rfl (congrArg CustodyView.cells hview) rfl rfl rfl⟩

end

end Sys2Proof.Machine
end

section
/-! SUPPORT. What a command can do to the custody tables: one constructor of `State.Change` per operation, with what the
checks before it have established. -/

namespace Sys2Proof.Machine

/-! ## The changes -/

/-- A robot is enrolled and was last heard on a link. -/
def State.heardOn (s : State) (n : Nat) (l : Link) : Prop := ∃ e, s.robot n = some e ∧ e.lastLink = some l

/-- The changes that commands make to the custody tables. -/
inductive State.Change (s : State) : State → Prop
  | none : s.Change s
  | declared (n bin zone prio slot : Nat) (cls : ThermalClass) (plan : Option Nat) (wave : Byte) (m : Option (Nat × Rule))
      (notice : Byte → Notice) (rest : List Nat) (hrobot : ∃ e, s.robot n = some e ∧ e.party = Option.none)
      (hbin : 1 ≤ bin ∧ bin < 2 ^ 32) (hprio : prio ≤ 3) (hplan : ∀ k, plan = some k → (s.plans.look k).isSome = true)
      (hnew : s.engine.binIndex.look bin = Option.none) (hfree : s.engine.freeSlots = slot :: rest)
      (hm : ∀ p, m = some p → p ∈ s.rules) :
      s.Change ((s.takeRule m notice false).openRecord n slot (newRecord s n bin cls zone plan wave prio m))
  | booked (n k : Nat) (l : Link) (h : Handle) (r : Record) (c : Cell) (lapsed receiver : Option Nat)
      (m : Option (Nat × Rule)) (notice : Byte → Notice) (hlast : s.heardOn n l) (hrec : s.recordOf h = some r)
      (hcustody : r.custody = .carried n lapsed) (hhops : r.hops < r.hopLimit) (hcell : s.cell k = some c)
      (hroom : c.stack.length + c.reserved < c.capacity) (hm : ∀ p, m = some p → p ∈ s.rules) :
      s.Change ((s.takeRule m notice false).bookRecord n l h r k receiver m)
  | bookingEnded (h : Handle) (r : Record) (carrier k : Nat) (receiver : Option Nat) (ov : Option Byte) (timing : Timing)
      (lapsed : Option Nat) (hrec : s.recordOf h = some r) (hcustody : r.custody = .booked carrier k receiver ov timing) :
      s.Change (s.endBooking h r carrier k lapsed)
  | staged (h : Handle) (r : Record) (carrier k : Nat) (receiver : Option Nat) (ov : Option Byte) (timing : Timing)
      (hrec : s.recordOf h = some r) (hcustody : r.custody = .booked carrier k receiver ov timing)
      (htop : s.topClaimed k = false) : s.Change (s.stageRecord h r carrier k receiver (s.setdownMask r k ov))
  | granted (n : Nat) (l : Link) (h : Handle) (r : Record) (spot : Spot) (lapsed : Option Nat) (hlast : s.heardOn n l)
      (hfree : ∀ e, s.robot n = some e → e.party = Option.none) (hrec : s.recordOf h = some r)
      (hcustody : r.custody = .staged spot lapsed)
      (hplace : s.cellTop spot.cell = some h ∨ ∃ g, ∃ e ∈ s.queueOf g, e.handle = h) : s.Change (s.grant n l h r spot)
  | claimEnded (h : Handle) (r : Record) (spot : Spot) (claimant : Nat) (timing : Timing) (hrec : s.recordOf h = some r)
      (hcustody : r.custody = .claimed spot claimant timing) : s.Change (s.endClaim h r spot claimant Option.none)
  | claimLapsed (h : Handle) (r : Record) (spot : Spot) (claimant : Nat) (timing : Timing) (hrec : s.recordOf h = some r)
      (hcustody : r.custody = .claimed spot claimant timing) : s.Change (s.claimLapse h r spot claimant)
  | takenUp (h : Handle) (r : Record) (spot : Spot) (claimant : Nat) (timing : Timing) (hrec : s.recordOf h = some r)
      (hcustody : r.custody = .claimed spot claimant timing) : s.Change (s.takeupRecord h r spot claimant)
  | retired (h : Handle) (r : Record) (hrec : s.recordOf h = some r) : s.Change (s.retire h r)
  | visited (slot : Nat) : s.Change (s.visit slot)
  | overdue (h : Handle) : s.Change (s.overdueTaken h)
  | linkTurned (l : Link) (up : Bool) (f : RobotLink → RobotLink) (hup : ∀ k, (f k).up = up)
      (hwindows : ∀ k, (f k).bookWindow = k.bookWindow ∧ (f k).claimWindow = k.claimWindow) :
      s.Change ((s.modPorts fun p => p.modLink l f).alignLink l up)
  | cellWritten (n : Nat) (b : CellBytes) (check : CheckMode) (haccept : b.accept ≠ 0)
      (hcapacity : 1 ≤ b.capacity.toNat ∧ b.capacity.toNat ≤ 4)
      (hoccupied : ∀ c, s.cell n = some c → occupiedRefuses c b = false) :
      s.Change (s.putCell n (writtenCell (s.cell n) b check))
  | cellDeleted (n : Nat) (c : Cell) (hcell : s.cell n = some c) (hempty : c.occupancy = 0) :
      s.Change (s.modEngine fun e => { e with cells := e.cells.del n })
  | cellDrained (n : Nat) (c : Cell) (admissions : Nat) (hcell : s.cell n = some c) :
      s.Change ((s.putCell n { c with state := .draining, admissions := admissions }).closeCheck n)
  | cellReopened (n : Nat) (c : Cell) (hcell : s.cell n = some c) :
      s.Change (s.putCell n { c with state := .opened, admissions := 0 })
  | robotEnrolled (n group : Nat) (hnew : s.robot n = Option.none) :
      s.Change (s.putRobot n ⟨false, group, Option.none, Option.none, 0⟩)
  | robotWritten (n : Nat) (e e' : Robot) (hrobot : s.robot n = some e) (hparty : e'.party = e.party)
      (hlast : e'.lastLink = e.lastLink) : s.Change (s.putRobot n e')
  | robotWithdrawn (n : Nat) (e : Robot) (hrobot : s.robot n = some e) (hparty : e.party = Option.none) :
      s.Change (s.modEngine fun g => { g with roster := g.roster.del n })
  | planWritten (n : Nat) (legs : List Leg) (hcount : 1 ≤ legs.length ∧ legs.length ≤ 8) (hmasks : ∀ l ∈ legs, l.mask ≠ 0)
      (hrefs : s.planRefs n = 0) : s.Change (s.modPlans fun t => t.put n ⟨legs, 0⟩)
  | planCleared (n : Nat) (hrefs : s.planRefs n = 0) : s.Change (s.modPlans fun t => t.del n)
  | expiryRaised : s.Change s.raiseExpiry
  | millisecond : s.Change s.millisecond
  | deviceReset : s.Change s.deviceReset

/-- What a command's own checks and effects do: a change, with quiet ones before and after it. -/
def State.Does (s t : State) : Prop := ∃ u v, s.Quiet u ∧ u.Change v ∧ v.Quiet t

theorem State.Change.does {s t : State} (h : s.Change t) : s.Does t := ⟨s, t, .refl s, h, .refl t⟩
theorem State.Quiet.does {s t : State} (h : s.Quiet t) : s.Does t := ⟨s, s, .refl s, .none, h⟩
theorem State.Does.refl (s : State) : s.Does s := State.Change.none.does

theorem State.Does.quiet {s t u : State} (h : s.Does t) (k : t.Quiet u) : s.Does u :=
  let ⟨v, w, hq, hc, hq'⟩ := h
  ⟨v, w, hq, hc, hq'.trans k⟩

theorem State.Quiet.then_does {s t u : State} (h : s.Quiet t) (k : t.Does u) : s.Does u :=
  let ⟨v, w, hq, hc, hq'⟩ := k
  ⟨v, w, h.trans hq, hc, hq'⟩

/-! ## The party-tested requests -/

theorem Custody.eq_carried {c : Custody} {n : Nat} (h : c.state = .carried ∧ c.party = some n) :
    ∃ lapsed, c = .carried n lapsed := by
  cases c <;> simp_all [Custody.state, Custody.party]

/-- A request whose party test fails changes nothing but the notices; one that passes does what follows. -/
theorem withParty_does {kind : Byte} {need : RecordState} {late : Bool} {raw : Half} {n : Nat} {s : State}
    {go : Handle → Record → State × Answer}
    (hgo : ∀ h r, s.recordOf h = some r → r.custody.state = need → r.custody.party = some n → s.Does (go h r).1) :
    s.Does (withParty kind need late raw n s go).1 := by
  cases hr : s.resolve raw with
  | none => rw [withParty_stale hr]; exact .refl s
  | some p =>
    obtain ⟨h, r⟩ := p
    by_cases hp : r.custody.state = need ∧ r.custody.party = some n
    · rw [withParty_passes hr hp]
      exact hgo h r (State.recordOf_of_resolve hr) hp.1 hp.2
    · rw [withParty_fails hr hp]
      split
      · exact (s.quiet_post _ _).does
      · exact .refl s

variable {s : State} {n : Nat}

theorem unbookRequest_does (handle : Half) : s.Does (unbookRequest handle n s).1 := by
  refine withParty_does fun h r hrec _ _ => ?_
  split
  · next carrier k _ _ _ hc => exact (State.Change.bookingEnded h r _ _ _ _ _ Option.none hrec hc).does
  · exact .refl s

theorem setdownRequest_does (handle : Half) : s.Does (setdownRequest handle n s).1 := by
  refine withParty_does fun h r hrec _ _ => ?_
  split
  · next hc =>
    split
    · exact .refl s
    · next ht => exact (State.Change.staged h r _ _ _ _ _ hrec hc (Bool.eq_false_iff.2 ht)).does
  · exact .refl s

theorem yieldRequest_does (handle : Half) : s.Does (yieldRequest handle n s).1 := by
  refine withParty_does fun h r hrec _ _ => ?_
  split
  · next hc => exact (State.Change.claimEnded h r _ _ _ hrec hc).does
  · exact .refl s

theorem takeupRequest_does (handle : Half) : s.Does (takeupRequest handle n s).1 := by
  refine withParty_does fun h r hrec _ _ => ?_
  split
  · next hc => exact (State.Change.takenUp h r _ _ _ hrec hc).does
  · exact .refl s

theorem finishRequest_does (handle : Half) (outcome : Byte) : s.Does (finishRequest handle outcome n s).1 := by
  refine withParty_does fun h r hrec _ _ => ?_
  split
  · exact .refl s
  · have hretired := (State.Change.retired h r hrec).does
    simp only
    split
    · exact hretired.quiet (State.quiet_post _ _ _)
    · exact hretired

theorem bookRequest_does {l : Link} (hlast : s.heardOn n l) (handle cell receiver : Half) :
    s.Does (bookRequest l handle cell receiver n s).1 := by
  unfold bookRequest
  split
  · exact .refl s
  refine withParty_does fun h r hrec hstate hparty => ?_
  obtain ⟨lapsed, hcustody⟩ := Custody.eq_carried ⟨hstate, hparty⟩
  split
  · exact .refl s
  next hhops =>
  split
  · exact .refl s
  next c hcell =>
  split
  · exact .refl s
  split
  · exact .refl s
  split
  · exact .refl s
  next hroom =>
  simp only
  split
  · exact (s.quiet_takeRule _ (fun p => State.matchRule_mem) _ _).does
  next hdenied =>
  rw [Bool.eq_false_iff.2 hdenied]
  exact (State.Change.booked n _ l h r c lapsed _ _ _ hlast hrec hcustody (not_not.1 hhops) hcell (not_not.1 hroom)
    fun p => State.matchRule_mem).does

/-! ## The other robot requests -/

theorem declareRequest_does {l : Link} (hlast : s.heardOn n l) (bin : Word) (cls zone plan wave priority : Byte) :
    s.Does (declareRequest bin cls zone plan wave priority n s).1 := by
  obtain ⟨e, hrobot, -⟩ := hlast
  rw [declareRequest_eq]
  split
  · exact .refl s
  next hparty =>
  split
  · exact .refl s
  next hfields =>
  split
  · exact .refl s
  next hplan =>
  split
  · exact .refl s
  next hnew =>
  split
  · next slot rest c hfree hcls =>
    have hbin : 1 ≤ bin.toNat ∧ bin.toNat < 2 ^ 32 := by
      refine ⟨Nat.one_le_iff_ne_zero.2 fun h => hfields (.inl (BitVec.eq_of_toNat_eq h)), bin.isLt⟩
    refine (State.Change.declared n bin.toNat zone.toNat _ slot c (if plan = 255 then Option.none else some plan.toNat) wave _ _
      rest ⟨e, hrobot, by simpa [hrobot] using hparty⟩ hbin (Nat.min_le_left 3 _) (fun k hk => ?_) (not_not.1 hnew) hfree
      fun p => State.matchRule_mem).does
    by_cases hp : plan = 255
    · simp [hp] at hk
    · rw [if_neg hp] at hk
      cases hk
      exact Option.isSome_iff_ne_none.2 fun h => hplan ⟨hp, h⟩
  · exact .refl s

/-- A robot that may be granted a record is party to nothing (R67, R70). -/
theorem State.party_of_grantable (h : s.grantable n = none) (e : Robot) (he : s.robot n = some e) : e.party = none := by
  simp only [State.grantable, he] at h
  split at h
  · cases h
  · split at h
    · cases h
    · next hp => simpa using hp

theorem claimRequest_does {l : Link} (hlast : s.heardOn n l) (handle : Half) : s.Does (claimRequest l handle n s).1 := by
  unfold claimRequest
  split
  · exact .refl s
  next hgrant =>
  split
  · exact .refl s
  next h r hr =>
  split
  · next spot lapsed hcustody =>
    split
    · exact .refl s
    next htop =>
    split
    · refine State.Quiet.does ?_
      simp only [State.refuseCustody]
      split
      · exact .refl s
      · split
        · exact (s.quiet_countEvent _ _ _).trans (State.quiet_post _ _ _)
        · exact s.quiet_countEvent _ _ _
    · exact (State.Change.granted n l h r spot lapsed hlast (State.party_of_grantable hgrant) (State.recordOf_of_resolve hr)
        hcustody (.inl (not_not.1 htop))).does
  · exact .refl s

/-- A member of a queue that passes both tests of the SEEK walk is a STAGED record (R110). -/
theorem State.of_seekWalk {h : Handle} {r : Record} {spot : Spot} (hw : s.seekWalk n = some (h, r, spot)) :
    s.recordOf h = some r ∧ (∃ lapsed, r.custody = .staged spot lapsed) ∧ ∃ g, ∃ e ∈ s.queueOf g, e.handle = h := by
  obtain ⟨e, he, ht⟩ := List.exists_of_findSome?_eq_some hw
  unfold State.seekTest at ht
  split at ht
  · cases ht
  next r' hr =>
  split at ht
  · next spot' lapsed hc =>
    obtain ⟨-, ht⟩ := Option.ite_none_right_eq_some.1 ht
    cases ht
    exact ⟨hr, ⟨lapsed, hc⟩, _, e, he, rfl⟩
  · cases ht

theorem seekRequest_does {l : Link} (hlast : s.heardOn n l) : s.Does (seekRequest l n s).1 := by
  unfold seekRequest
  split
  · exact .refl s
  next hgrant =>
  split
  · exact .refl s
  next h r spot hwalk =>
  obtain ⟨hrec, ⟨lapsed, hcustody⟩, hplace⟩ := State.of_seekWalk hwalk
  exact (State.Change.granted n l h r spot lapsed hlast (State.party_of_grantable hgrant) hrec hcustody (.inr hplace)).does

theorem queryBinRequest_does (bin : Word) : s.Does (queryBinRequest bin n s).1 := by
  unfold queryBinRequest
  split <;> exact .refl s

theorem queryCellRequest_does (cell : Half) : s.Does (queryCellRequest cell n s).1 := by
  unfold queryCellRequest
  split
  · exact .refl s
  · split <;> exact .refl s

/-! ## Cells, robots and plans -/

theorem cellWriteRequest_does (cell : Half) (b : CellBytes) : s.Does (cellWriteRequest cell b s).1 := by
  unfold cellWriteRequest
  split
  · exact .refl s
  next check _ =>
  simp only
  split
  · exact .refl s
  next hfit =>
  split
  · exact .refl s
  split
  · exact .refl s
  next hbusy =>
  simp only [Bool.not_eq_true', Bool.not_eq_false, cellFieldsFit, Bool.and_eq_true, bne_iff_ne, decide_eq_true_eq] at hfit
  obtain ⟨⟨⟨-, hlow⟩, hhigh⟩, haccept⟩ := hfit
  refine (State.Change.cellWritten cell.toNat b check haccept ⟨hlow, hhigh⟩ fun c hc => ?_).does
  simpa [hc] using hbusy

theorem cellDeleteRequest_does (cell : Half) : s.Does (cellDeleteRequest cell s).1 := by
  simp only [cellDeleteRequest]
  split
  · exact .refl s
  split
  · exact .refl s
  next c hc =>
  split
  · exact .refl s
  next hempty => exact (State.Change.cellDeleted _ c hc (Nat.eq_zero_of_not_pos hempty)).does

theorem cellDrainRequest_does (cell : Half) (admissions : Byte) : s.Does (cellDrainRequest cell admissions s).1 := by
  simp only [cellDrainRequest]
  split
  · exact .refl s
  split
  · exact .refl s
  next c hc =>
  split
  · exact .refl s
  · exact (State.Change.cellDrained _ c _ hc).does

theorem cellReopenRequest_does (cell : Half) : s.Does (cellReopenRequest cell s).1 := by
  simp only [cellReopenRequest]
  split
  · exact .refl s
  split
  · exact .refl s
  next c hc =>
  split
  · exact .refl s
  · exact (State.Change.cellReopened _ c hc).does

theorem robotEnrolRequest_does (robot : Half) (group : Byte) : s.Does (robotEnrolRequest robot group s).1 := by
  simp only [robotEnrolRequest]
  split
  · exact .refl s
  split
  · next hnew => exact (State.Change.robotEnrolled _ _ hnew).does
  · next e he => exact (State.Change.robotWritten _ e { e with group := group.toNat } he rfl rfl).does

theorem robotWithdrawRequest_does (robot : Half) : s.Does (robotWithdrawRequest robot s).1 := by
  simp only [robotWithdrawRequest]
  split
  · exact .refl s
  split
  · exact .refl s
  next e he =>
  split
  · exact .refl s
  next hp => exact (State.Change.robotWithdrawn _ e he (by simpa using hp)).does

theorem robotSuspendRequest_does (robot : Half) : s.Does (robotSuspendRequest robot s).1 := by
  simp only [robotSuspendRequest]
  split
  · exact .refl s
  split
  · exact .refl s
  next e he => exact (State.Change.robotWritten _ e { e with suspended := true } he rfl rfl).does

theorem robotResumeRequest_does (robot : Half) : s.Does (robotResumeRequest robot s).1 := by
  simp only [robotResumeRequest]
  split
  · exact .refl s
  split
  · exact .refl s
  next e he => exact (State.Change.robotWritten _ e { e with suspended := false, misses := 0 } he rfl rfl).does

theorem robotReadRequest_does (robot : Half) : s.Does (robotReadRequest robot s).1 := by
  unfold robotReadRequest
  split <;> exact .refl s

theorem missLimitRequest_does (limit : Byte) : s.Does (missLimitRequest limit s).1 := by
  unfold missLimitRequest
  split
  · exact .refl s
  · exact (s.quiet_modEngine (fun e => { e with missLimit := limit.toNat }) rfl).does

theorem planWriteRequest_does (plan legCount : Byte) (legs : List (Byte × Byte)) :
    s.Does (planWriteRequest plan legCount legs s).1 := by
  simp only [planWriteRequest]
  split
  · exact .refl s
  next hfit =>
  split
  · exact .refl s
  next hrefs =>
  simp only [Bool.not_eq_true', Bool.not_eq_false, planFieldsFit, Bool.and_eq_true, decide_eq_true_eq, beq_iff_eq,
    List.all_eq_true, bne_iff_ne] at hfit
  obtain ⟨⟨⟨⟨-, hlow⟩, hhigh⟩, hcount⟩, hlegs⟩ := hfit
  refine (State.Change.planWritten plan.toNat (legs.map fun p => ⟨p.1.toNat, p.2⟩) ?_ ?_
    (Nat.eq_zero_of_not_pos hrefs)).does
  · rw [List.length_map, hcount]
    exact ⟨hlow, hhigh⟩
  · intro leg hleg
    obtain ⟨p, hp, rfl⟩ := List.mem_map.1 hleg
    exact (hlegs p hp).2

theorem planClearRequest_does (plan : Byte) : s.Does (planClearRequest plan s).1 := by
  simp only [planClearRequest]
  split
  · exact .refl s
  split
  · exact .refl s
  next p hp =>
  split
  · exact .refl s
  next hrefs =>
  exact (State.Change.planCleared _ (by simpa [State.planRefs, hp] using hrefs)).does

theorem planReadRequest_does (plan : Byte) : s.Does (planReadRequest plan s).1 := by
  unfold planReadRequest
  split <;> exact .refl s

/-! ## Classes, zones, rules and links -/

theorem DwellUnit.params_setParams (d : DwellUnit) (c c' : ThermalClass) (p : ClassParams) :
    (d.setParams c p).params c' = if c' = c then p else d.params c' := by
  cases c <;> cases c' <;> rfl

theorem classWriteRequest_does (cls : Byte) (b : ClassBytes) : s.Does (classWriteRequest cls b s).1 := by
  unfold classWriteRequest
  split
  · exact .refl s
  next c _ =>
  split
  · exact .refl s
  next hfit =>
  simp only [Bool.not_eq_true', Bool.not_eq_false, classFieldsFit, Bool.and_eq_true, decide_eq_true_eq] at hfit
  obtain ⟨⟨-, hlow⟩, hhigh⟩ := hfit
  refine (s.quiet_modDwell (fun d => d.setParams c (ClassBytes.params b)) fun hc c' => ?_).does
  rw [DwellUnit.params_setParams]
  split
  · exact ⟨hlow, hhigh⟩
  · exact hc c'

theorem classReadRequest_does (cls : Byte) : s.Does (classReadRequest cls s).1 := by
  unfold classReadRequest
  split <;> exact .refl s

theorem State.quiet_putZone (s : State) (n : Nat) (z : Zone) : s.Quiet (s.putZone n z) := s.quiet_modDwell_of_params _ rfl

theorem zoneModeRequest_does (zone mode : Byte) : s.Does (zoneModeRequest zone mode s).1 := by
  simp only [zoneModeRequest]
  split
  · exact .refl s
  · exact (s.quiet_putZone _ _).does

theorem zoneSenseRequest_does (zone : Byte) (reading : Half) : s.Does (zoneSenseRequest zone reading s).1 := by
  simp only [zoneSenseRequest]
  split
  · exact .refl s
  split
  · exact .refl s
  · simp only [withZone]
    split
    · exact ((s.quiet_putZone _ _).trans (State.quiet_post _ _ _)).does
    · exact (s.quiet_putZone _ _).does

theorem zoneSetRequest_does (zone : Byte) (temperature : Half) : s.Does (zoneSetRequest zone temperature s).1 := by
  simp only [zoneSetRequest]
  split
  · exact .refl s
  split
  · exact .refl s
  · exact (s.quiet_putZone _ _).does

theorem zoneReadRequest_does (zone : Byte) : s.Does (zoneReadRequest zone s).1 := by
  unfold zoneReadRequest
  split <;> exact .refl s

theorem dwellSetRequest_does (p l m : Byte) : s.Does (dwellSetRequest p l m s).1 := by
  unfold dwellSetRequest
  split
  · have hset := s.quiet_modDwell_of_params
      (fun d => { d with period := p.toNat, staleLimit := l.toNat, staleMargin := m.toNat }) rfl
    refine State.Quiet.does (hset.trans ?_)
    simp only
    split
    · exact State.quiet_modDwell_of_params _ _ rfl
    · exact .refl _
  · exact .refl s

theorem ruleWriteRequest_does (b : RuleBytes) : s.Does (ruleWriteRequest b s).1 := by
  simp only [ruleWriteRequest]
  split
  · exact .refl s
  split
  · next h =>
    obtain ⟨-, -, hfloor, hover⟩ := h
    exact (s.quiet_putRule _ _ (fun _ => hfloor) fun _ => hover).does
  · exact .refl s

theorem ruleReadRequest_does (index : Byte) : s.Does (ruleReadRequest index s).1 := by
  unfold ruleReadRequest
  split <;> exact .refl s

/-- A rule has its values at reset or is listed. -/
theorem State.rule_eq_reset_or_mem (s : State) (n : Nat) : s.rule n = .reset ∨ (n, s.rule n) ∈ s.rules := by
  unfold State.rule Table.lookD
  cases h : s.rules.look n with
  | none => exact .inl rfl
  | some r => exact .inr (Table.mem_of_look h)

theorem State.quiet_clearHit (s : State) (n : Nat) : s.Quiet (s.putRule n { s.rule n with hit := false }) := by
  refine s.quiet_putRule _ _ (fun h => ?_) fun h => ?_
  · rcases s.rule_eq_reset_or_mem n with e | hm
    · rw [e]; exact Nat.zero_le 3
    · exact h _ hm
  · rcases s.rule_eq_reset_or_mem n with e | hm
    · rw [e]; exact nofun
    · exact h _ hm

/-- A run of quiet changes is quiet. -/
theorem State.quiet_foldl {α : Type} (f : State → α → State) (hf : ∀ (s : State) (a : α), s.Quiet (f s a)) (l : List α) (s : State) :
    s.Quiet (l.foldl f s) := by
  induction l generalizing s with
  | nil => exact .refl s
  | cons a l ih => exact (hf s a).trans (ih _)

theorem ruleHitsRequest_does (clear : Quad) : s.Does (ruleHitsRequest clear s).1 := by
  refine State.Quiet.does (State.quiet_foldl _ (fun s i => ?_) _ s)
  split
  · exact s.quiet_clearHit i
  · exact .refl s

theorem PortUnit.robotLink_modLink (p : PortUnit) (l m : Link) (f : RobotLink → RobotLink) :
    (p.modLink l f).robotLink m = if m = l then f (p.robotLink m) else p.robotLink m := by
  cases l <;> cases m <;> rfl

theorem PortUnit.up_foldl_modLink (f : RobotLink → RobotLink) (hf : ∀ k, (f k).up = k.up) (links : List Link)
    (p : PortUnit) (l : Link) : ((links.foldl (fun p l => p.modLink l f) p).robotLink l).up = (p.robotLink l).up := by
  induction links generalizing p with
  | nil => rfl
  | cons m links ih =>
    rw [List.foldl_cons, ih, PortUnit.robotLink_modLink]
    split
    · exact hf _
    · rfl

/-- Links whose windows are written in range keep them so. -/
theorem PortUnit.windows_foldl_modLink (f : RobotLink → RobotLink)
    (hf : ∀ k, (f k).bookWindow ≤ 255 ∧ (f k).claimWindow ≤ 255) (links : List Link) (p : PortUnit)
    (hp : ∀ l, (p.robotLink l).bookWindow ≤ 255 ∧ (p.robotLink l).claimWindow ≤ 255) (l : Link) :
    ((links.foldl (fun p l => p.modLink l f) p).robotLink l).bookWindow ≤ 255 ∧
      ((links.foldl (fun p l => p.modLink l f) p).robotLink l).claimWindow ≤ 255 := by
  induction links generalizing p with
  | nil => exact hp l
  | cons m links ih =>
    refine ih _ fun k => ?_
    rw [PortUnit.robotLink_modLink]
    split
    · exact hf _
    · exact hp k

theorem windowOf_le (b : Byte) : windowOf b ≤ 255 := by
  have := b.isLt
  simp only [windowOf]
  omega

theorem linkSetRequest_does (selector booking claim silence : Byte) :
    s.Does (linkSetRequest selector booking claim silence s).1 := by
  unfold linkSetRequest
  split
  · exact .refl s
  next links _ _ =>
  simp only
  refine State.Quiet.does (s.quiet_modPorts _ (fun l => ?_) fun h l => ?_)
  · apply PortUnit.up_foldl_modLink
    exact fun k => rfl
  · apply PortUnit.windows_foldl_modLink _ _ _ _ h
    exact fun k => ⟨windowOf_le booking, windowOf_le claim⟩

theorem linkReadRequest_does (selector : Byte) : s.Does (linkReadRequest selector s).1 := by
  unfold linkReadRequest
  split <;> exact .refl s

/-! ## Supervision and notices -/

theorem State.does_notices (f : NoticeUnit → NoticeUnit) (a : Answer) : s.Does (s.modNotices f, a).1 :=
  (s.quiet_modNotices f).does

theorem modeRequest_does (requested : Byte) : s.Does (modeRequest requested s).1 := by
  have hmode : ∀ m f, (∀ d : DwellUnit, (f d).params = d.params) → s.Does ((s.setMode m).modDwell f) := fun m f hf =>
    ((s.quiet_modEngine (fun e => { e with mode := m }) rfl).trans (State.quiet_modDwell_of_params _ _ (hf _))).does
  simp only [modeRequest]
  split
  · split
    · exact .refl s
    · exact hmode _ _ fun d => rfl
  · split
    · split
      · exact .refl s
      · split
        · exact .refl s
        · exact hmode .setup (fun d => { d.abandonPass with timer := none }) fun d => rfl
    · exact .refl s

theorem lookupRequest_does (selector : Byte) (value : Word) : s.Does (lookupRequest selector value s).1 := by
  simp only [lookupRequest]
  split <;> exact .refl s

theorem scanRequest_does (start : Half) (count : Byte) : s.Does (scanRequest start count s).1 := by
  simp only [scanRequest]
  split <;> exact .refl s

theorem retireRequest_does (handle : Half) : s.Does (retireRequest handle s).1 := by
  unfold retireRequest
  split
  · exact .refl s
  next h r hr => exact (State.Change.retired h r (State.recordOf_of_resolve hr)).does

theorem noticeReadRequest_does (queue most : Byte) : s.Does (noticeReadRequest queue most s).1 := by
  simp only [noticeReadRequest]
  split
  · exact .refl s
  split
  · exact .refl s
  · exact State.does_notices _ _

theorem alertMaskRequest_does (enabled : Byte) : s.Does (alertMaskRequest enabled s).1 := by
  simp only [alertMaskRequest]
  split
  · exact .refl s
  · exact State.does_notices _ _

theorem alertClearRequest_does (sources : Byte) : s.Does (alertClearRequest sources s).1 := by
  simp only [alertClearRequest]
  split
  · exact .refl s
  · exact State.does_notices _ _

theorem counterMaskRequest_does (slot events unit : Byte) : s.Does (counterMaskRequest slot events unit s).1 := by
  simp only [counterMaskRequest]
  split
  · exact .refl s
  · exact State.does_notices _ _

theorem counterReadRequest_does (zone : Byte) : s.Does (counterReadRequest zone s).1 := by
  simp only [counterReadRequest]
  split <;> exact .refl s

theorem counterClearRequest_does (zone : Byte) : s.Does (counterClearRequest zone s).1 := by
  simp only [counterClearRequest]
  split
  · exact State.does_notices _ _
  · split
    · exact .refl s
    · exact State.does_notices _ _

end Sys2Proof.Machine
end

section
/-! SUPPORT. What a step can do: a quiet change, the link update of a robot request, and what the command does. -/

namespace Sys2Proof.Machine

variable {s : State}

/-! ## Events -/

/-- The record that a slot's handle names is the one in the slot (R2). -/
theorem State.recordOf_handleOf (s : State) (slot : Nat) : s.recordOf (s.handleOf slot) = s.engine.records.look slot := by
  simp [State.recordOf, State.handleOf]

theorem bookingLapse_does {h : Handle} {r : Record} {carrier k : Nat} {receiver : Option Nat} {ov : Option Byte}
    {timing : Timing} (hrec : s.recordOf h = some r) (hcustody : r.custody = .booked carrier k receiver ov timing) :
    s.Does (s.bookingLapse h r carrier k) :=
  ((State.Change.bookingEnded h r carrier k receiver ov timing (some carrier) hrec hcustody).does.quiet
    (State.quiet_post _ _ _)).quiet (State.quiet_countEvent _ _ _ _)

theorem lapse_does (x : Expiry) : s.Does (s.lapse x) := by
  unfold State.lapse
  split
  · exact .refl s
  next r hrec =>
  split
  · next hcustody _ =>
    split
    · exact bookingLapse_does hrec hcustody
    · exact .refl s
  · next hcustody _ =>
    split
    · exact (State.Change.claimLapsed x.handle r _ _ _ hrec hcustody).does
    · exact .refl s
  · exact .refl s

theorem takeExpiry_does (n : Nat) : s.Does (s.takeExpiry n) := by
  unfold State.takeExpiry
  split
  · exact .refl s
  split
  · exact .refl s
  · exact (s.quiet_modEngine (fun e => { e with expiries := e.expiries.eraseIdx n }) rfl).then_does (lapse_does _)

theorem takeOverdue_does (n : Nat) : s.Does (s.takeOverdue n) := by
  unfold State.takeOverdue
  split
  · exact .refl s
  split
  · exact .refl s
  · exact (s.quiet_modEngine (fun e => { e with overdues := e.overdues.eraseIdx n }) rfl).then_does
      (State.Change.overdue _).does

theorem State.quiet_beginPass (s : State) : s.Quiet s.beginPass :=
  ((State.quiet_foldl _ (fun t _ => t.quiet_putZone _ _) _ s).trans
    (State.quiet_foldl _ (fun t _ => t.quiet_post _ _) _ _)).trans (State.quiet_modDwell_of_params _ _ rfl)

theorem periodExpiry_does : s.Does s.periodExpiry := by
  unfold State.periodExpiry
  split
  · have htimer := s.quiet_modDwell_of_params DwellUnit.startTimer rfl
    simp only
    split
    · exact (htimer.trans (State.quiet_modDwell_of_params _ _ rfl)).does
    · exact (htimer.trans (State.quiet_beginPass _)).does
  · exact .refl s

theorem State.quiet_endPass (s : State) : s.Quiet s.endPass := by
  have hend := s.quiet_modDwell_of_params (fun d => { d with cursor := none, passes := d.passes + 1 }) rfl
  simp only [State.endPass]
  split
  · exact (hend.trans (State.quiet_modDwell_of_params _ _ rfl)).trans (State.quiet_beginPass _)
  · exact hend

theorem accrualStep_does : s.Does s.accrualStep := by
  unfold State.accrualStep
  split
  · exact .refl s
  next slot _ =>
  simp only
  split
  · exact (State.Change.visited slot).does.quiet (State.quiet_modDwell_of_params _ _ rfl)
  · exact (State.Change.visited slot).does.quiet (State.quiet_endPass _)

theorem State.quiet_send (s : State) (frames : List Frame) : s.Quiet (s.send frames) := ⟨rfl, .of_eq rfl rfl rfl rfl rfl⟩

theorem State.quiet_endFlush (s : State) : s.Quiet s.endFlush := by
  have hmode := s.quiet_modEngine (fun e => { e with mode := .setup, flush := none }) rfl
  have hunsent : ∀ t : State, t.Quiet ((t.send s.ports.unsent).modPorts fun p => { p with unsent := [] }) := fun t =>
    (t.quiet_send _).trans (State.quiet_modPorts_of_settings _ _ fun l => by cases l <;> exact ⟨rfl, rfl, rfl⟩)
  unfold State.endFlush
  split
  · exact (hmode.trans (State.quiet_sendReply _ _ _)).trans (hunsent _)
  · exact hmode.trans (hunsent _)

theorem flushStep_does : s.Does s.flushStep := by
  unfold State.flushStep
  split
  · exact .refl s
  split
  · exact s.quiet_endFlush.does
  next slot r rest hrecords =>
  have hrec : s.recordOf (s.handleOf slot) = some r := by rw [State.recordOf_handleOf, hrecords]; simp [Table.look]
  have hretired := (State.Change.retired _ r hrec).does.quiet
    (State.quiet_modEngine _ (fun e => { e with flush := e.flush.map FlushRun.more }) rfl)
  simp only
  split
  · exact hretired.quiet (State.quiet_endFlush _)
  · exact hretired

theorem State.quiet_linkEdge (s : State) : s.Quiet s.linkEdge := s.quiet_modNotices _

theorem goodOnLink_does (l : Link) (f : Frame) : s.Does (s.goodOnLink l f) := by
  unfold State.goodOnLink
  simp only
  split
  · next hup =>
    refine (s.quiet_modPorts_of_settings _ fun m => ?_).does
    rw [PortUnit.robotLink_modLink]
    split
    · next hm => exact ⟨by rw [hm]; exact hup.symm, rfl, rfl⟩
    · exact ⟨rfl, rfl, rfl⟩
  · exact (State.Change.linkTurned l true
      (fun k => { k with silence := some (k.silenceLimit * 250), mirror := flagAt f.flags 0, up := true }) (fun _ => rfl)
      fun _ => ⟨rfl, rfl⟩).does.quiet (State.quiet_linkEdge _)

theorem frameArrives_does (port : Port) (bytes : List Byte) : s.Does (s.frameArrives port bytes) := by
  unfold State.frameArrives
  split
  · exact .refl s
  next f _ =>
  have hlink : s.Does (match f.port with
      | .link l => s.goodOnLink l f
      | .host => s) := by
    split
    · exact goodOnLink_does _ f
    · exact .refl s
  simp only [State.goodArrival]
  split
  · exact hlink
  · exact hlink.quiet (State.quiet_present _ _)

theorem silenceExpires_does (l : Link) : s.Does (s.silenceExpires l) := by
  unfold State.silenceExpires
  split
  · exact (State.Change.linkTurned l false (fun k => { k with up := false, silence := none, mirror := false })
      (fun _ => rfl) fun _ => ⟨rfl, rfl⟩).does.quiet (State.quiet_linkEdge _)
  · exact .refl s

/-! ## Services -/

theorem resetService_does (f : Frame) : s.Does (resetService f s).1 := by
  unfold resetService
  split
  · exact .refl s
  · exact (s.quiet_sendReply _ _).then_does State.Change.deviceReset.does

theorem State.quiet_stopDwell (s : State) : s.Quiet s.stopDwell :=
  s.quiet_modDwell_of_params (fun d => { d.abandonPass with timer := none }) rfl

theorem State.quiet_beginFlush (s : State) (f : Frame) : s.Quiet (s.beginFlush f) :=
  (s.quiet_modEngine (fun e => { e with mode := .flushing, flush := some ⟨f, 0⟩ }) rfl).trans
    (State.quiet_stopDwell _)

theorem flushService_does (f : Frame) : s.Does (flushService f s).1 := by
  unfold flushService
  split
  · exact .refl s
  · exact .refl s
  · simp only
    split
    · exact ((s.quiet_beginFlush f).trans (State.quiet_endFlush _)).does
    · exact (s.quiet_beginFlush f).does

/-! ## The link update of intake -/

/-- The timing of the record in a slot, and its entry in the deadline list, are all that bringing it into line writes. -/
theorem State.alignHold_eq (s : State) (slot : Nat) (up : Bool) :
    ∃ records list, s.alignHold slot up =
      { s with engine := { s.engine with records := records }, timer := { s.timer with list := list } } := by
  unfold State.alignHold
  split
  · exact ⟨_, _, rfl⟩
  split
  · exact ⟨_, _, rfl⟩
  · exact ⟨_, _, rfl⟩
  all_goals
    next timing _ =>
    cases timing <;> cases up <;> exact ⟨_, _, rfl⟩

/-- A robot request's link update: the robot is heard on the link, and its record is brought into line (R50). -/
def State.Intake (s t : State) : Prop := t = s ∨ ∃ n l e, s.robot n = some e ∧ t = s.linkUpdate n l e

theorem State.linkUpdate_heardOn (s : State) (n : Nat) (l : Link) (e : Robot) : (s.linkUpdate n l e).heardOn n l := by
  have hput : (s.putRobot n { e with lastLink := some l }).heardOn n l :=
    ⟨_, Table.look_put_self _ _ _, rfl⟩
  unfold State.linkUpdate
  split
  · next h _ _ =>
    obtain ⟨records, list, heq⟩ := (s.putRobot n { e with lastLink := some l }).alignHold_eq h.slot
      ((s.putRobot n { e with lastLink := some l }).linkUp l)
    rw [heq]
    exact hput
  · exact hput

/-! ## What a step does -/

/-- What a step can do to the custody tables. -/
def State.Effect (s t : State) : Prop := ∃ u v, s.Quiet u ∧ u.Intake v ∧ v.Does t

theorem State.Does.effect {t : State} (h : s.Does t) : s.Effect t := ⟨s, s, .refl s, .inl rfl, h⟩

theorem State.Effect.quiet {t u : State} (h : s.Effect t) (k : t.Quiet u) : s.Effect u :=
  let ⟨v, w, hq, hi, hd⟩ := h
  ⟨v, w, hq, hi, hd.quiet k⟩

theorem State.Quiet.then_effect {t u : State} (h : s.Quiet t) (k : t.Effect u) : s.Effect u :=
  let ⟨v, w, hq, hi, hd⟩ := k
  ⟨v, w, h.trans hq, hi, hd⟩

/-- A request is presented, and served when it is handed over; presenting, taking and answering are quiet. -/
theorem State.serve_effect (c : Instr) {run : Frame → State → Served} (hrun : ∀ f u, State.Effect u (run f u).1) :
    s.Effect (s.serve c run) := by
  unfold State.serve
  split
  · exact (State.Does.refl s).effect
  next f _ =>
  have hpresent : s.Quiet (if s.ports.nextRequest = some f then s else s.present f) := by
    split
    · exact .refl s
    · exact s.quiet_present f
  dsimp only
  generalize (if s.ports.nextRequest = some f then s else s.present f) = s1 at hpresent ⊢
  split
  · have htaken := (hpresent.trans (State.quiet_take _)).then_effect (hrun f _)
    split
    · next h => rw [h] at htaken; exact htaken.quiet (State.quiet_respond _ _ _)
    · next h => rw [h] at htaken; exact htaken
  · exact hpresent.does.effect

theorem State.serve_host_effect (c : Instr) {own : State → State × Answer} (hown : ∀ u, State.Does u (own u).1) :
    s.Effect (s.serve c (hostService own)) := by
  refine State.serve_effect c fun f u => ?_
  unfold hostService
  split
  · exact (State.Does.refl u).effect
  · exact (hown u).effect

theorem State.serve_robot_effect (c : Instr) (l : Link) (hd : Hdr) {own : Nat → State → State × Answer}
    (hown : ∀ n v, State.heardOn v n l → State.Does v (own n v).1) : s.Effect (s.serve c (robotService l hd own)) := by
  refine State.serve_effect c fun f u => ?_
  unfold robotService
  split
  · exact (State.Does.refl u).effect
  simp only
  split
  · exact (State.Does.refl u).effect
  split
  · exact (State.Does.refl u).effect
  next e he =>
  exact ⟨u, _, .refl u, .inr ⟨_, l, e, he, rfl⟩, hown _ _ (u.linkUpdate_heardOn _ l e)⟩

/-- Every command answers a next state, and what it does is one of the changes above. -/
theorem exec_effect (c : Instr) (s : State) : ∃ t, exec c s = .next t ∧ s.Effect t := by
  cases c with
  | frameArrival port bytes => exact ⟨_, rfl, (frameArrives_does port bytes).effect⟩
  | silenceTimerExpiry l => exact ⟨_, rfl, (silenceExpires_does l).effect⟩
  | declare l h bin cls zone plan wave priority =>
    exact ⟨_, rfl, State.serve_robot_effect _ l h fun _ _ hl => declareRequest_does hl ..⟩
  | book l h handle cell receiver => exact ⟨_, rfl, State.serve_robot_effect _ l h fun _ _ hl => bookRequest_does hl ..⟩
  | unbook l h handle => exact ⟨_, rfl, State.serve_robot_effect _ l h fun _ _ _ => unbookRequest_does handle⟩
  | setdown l h handle => exact ⟨_, rfl, State.serve_robot_effect _ l h fun _ _ _ => setdownRequest_does handle⟩
  | claim l h handle => exact ⟨_, rfl, State.serve_robot_effect _ l h fun _ _ hl => claimRequest_does hl handle⟩
  | seek l h => exact ⟨_, rfl, State.serve_robot_effect _ l h fun _ _ hl => seekRequest_does hl⟩
  | yieldBin l h handle => exact ⟨_, rfl, State.serve_robot_effect _ l h fun _ _ _ => yieldRequest_does handle⟩
  | takeup l h handle => exact ⟨_, rfl, State.serve_robot_effect _ l h fun _ _ _ => takeupRequest_does handle⟩
  | finish l h handle outcome =>
    exact ⟨_, rfl, State.serve_robot_effect _ l h fun _ _ _ => finishRequest_does handle outcome⟩
  | queryBin l h bin => exact ⟨_, rfl, State.serve_robot_effect _ l h fun _ _ _ => queryBinRequest_does bin⟩
  | queryCell l h cell => exact ⟨_, rfl, State.serve_robot_effect _ l h fun _ _ _ => queryCellRequest_does cell⟩
  | cellWrite h cell config => exact ⟨_, rfl, State.serve_host_effect _ fun _ => cellWriteRequest_does cell config⟩
  | cellDelete h cell => exact ⟨_, rfl, State.serve_host_effect _ fun _ => cellDeleteRequest_does cell⟩
  | cellDrain h cell admissions =>
    exact ⟨_, rfl, State.serve_host_effect _ fun _ => cellDrainRequest_does cell admissions⟩
  | cellReopen h cell => exact ⟨_, rfl, State.serve_host_effect _ fun _ => cellReopenRequest_does cell⟩
  | robotEnrol h robot group => exact ⟨_, rfl, State.serve_host_effect _ fun _ => robotEnrolRequest_does robot group⟩
  | robotWithdraw h robot => exact ⟨_, rfl, State.serve_host_effect _ fun _ => robotWithdrawRequest_does robot⟩
  | robotSuspend h robot => exact ⟨_, rfl, State.serve_host_effect _ fun _ => robotSuspendRequest_does robot⟩
  | robotResume h robot => exact ⟨_, rfl, State.serve_host_effect _ fun _ => robotResumeRequest_does robot⟩
  | robotRead h robot => exact ⟨_, rfl, State.serve_host_effect _ fun _ => robotReadRequest_does robot⟩
  | missLimit h limit => exact ⟨_, rfl, State.serve_host_effect _ fun _ => missLimitRequest_does limit⟩
  | planWrite h plan legCount legs =>
    exact ⟨_, rfl, State.serve_host_effect _ fun _ => planWriteRequest_does plan legCount legs⟩
  | planClear h plan => exact ⟨_, rfl, State.serve_host_effect _ fun _ => planClearRequest_does plan⟩
  | planRead h plan => exact ⟨_, rfl, State.serve_host_effect _ fun _ => planReadRequest_does plan⟩
  | classWrite h cls params => exact ⟨_, rfl, State.serve_host_effect _ fun _ => classWriteRequest_does cls params⟩
  | classRead h cls => exact ⟨_, rfl, State.serve_host_effect _ fun _ => classReadRequest_does cls⟩
  | zoneMode h zone mode => exact ⟨_, rfl, State.serve_host_effect _ fun _ => zoneModeRequest_does zone mode⟩
  | zoneSense h zone reading => exact ⟨_, rfl, State.serve_host_effect _ fun _ => zoneSenseRequest_does zone reading⟩
  | zoneSet h zone temperature => exact ⟨_, rfl, State.serve_host_effect _ fun _ => zoneSetRequest_does zone temperature⟩
  | zoneRead h zone => exact ⟨_, rfl, State.serve_host_effect _ fun _ => zoneReadRequest_does zone⟩
  | dwellSet h period staleLimit staleMargin =>
    exact ⟨_, rfl, State.serve_host_effect _ fun _ => dwellSetRequest_does period staleLimit staleMargin⟩
  | ruleWrite h rule => exact ⟨_, rfl, State.serve_host_effect _ fun _ => ruleWriteRequest_does rule⟩
  | ruleRead h index => exact ⟨_, rfl, State.serve_host_effect _ fun _ => ruleReadRequest_does index⟩
  | ruleHits h clear => exact ⟨_, rfl, State.serve_host_effect _ fun _ => ruleHitsRequest_does clear⟩
  | linkSet h selector booking claim silence =>
    exact ⟨_, rfl, State.serve_host_effect _ fun _ => linkSetRequest_does selector booking claim silence⟩
  | linkRead h selector => exact ⟨_, rfl, State.serve_host_effect _ fun _ => linkReadRequest_does selector⟩
  | mode h requested => exact ⟨_, rfl, State.serve_host_effect _ fun _ => modeRequest_does requested⟩
  | status h => exact ⟨_, rfl, State.serve_effect _ fun _ u => (State.Does.refl u).effect⟩
  | lookup h selector value => exact ⟨_, rfl, State.serve_host_effect _ fun _ => lookupRequest_does selector value⟩
  | scan h start count => exact ⟨_, rfl, State.serve_host_effect _ fun _ => scanRequest_does start count⟩
  | retire h handle => exact ⟨_, rfl, State.serve_host_effect _ fun _ => retireRequest_does handle⟩
  | flush h => exact ⟨_, rfl, State.serve_effect _ fun f _ => (flushService_does f).effect⟩
  | flushRetirement => exact ⟨_, rfl, flushStep_does.effect⟩
  | reset h => exact ⟨_, rfl, State.serve_effect _ fun f _ => (resetService_does f).effect⟩
  | deviceReset => exact ⟨_, rfl, State.Change.deviceReset.does.effect⟩
  | noticeRead h queue most => exact ⟨_, rfl, State.serve_host_effect _ fun _ => noticeReadRequest_does queue most⟩
  | alertRead h => exact ⟨_, rfl, State.serve_host_effect _ fun u => State.Does.refl u⟩
  | alertMask h enabled => exact ⟨_, rfl, State.serve_host_effect _ fun _ => alertMaskRequest_does enabled⟩
  | alertClear h sources => exact ⟨_, rfl, State.serve_host_effect _ fun _ => alertClearRequest_does sources⟩
  | counterMask h slot events unit =>
    exact ⟨_, rfl, State.serve_host_effect _ fun _ => counterMaskRequest_does slot events unit⟩
  | counterRead h zone => exact ⟨_, rfl, State.serve_host_effect _ fun _ => counterReadRequest_does zone⟩
  | counterClear h zone => exact ⟨_, rfl, State.serve_host_effect _ fun _ => counterClearRequest_does zone⟩
  | deadlineReached => exact ⟨_, rfl, State.Change.expiryRaised.does.effect⟩
  | expiryTaken n => exact ⟨_, rfl, (takeExpiry_does n).effect⟩
  | accrualPeriodExpiry => exact ⟨_, rfl, periodExpiry_does.effect⟩
  | accrualVisit => exact ⟨_, rfl, accrualStep_does.effect⟩
  | overdueEvent n => exact ⟨_, rfl, (takeOverdue_does n).effect⟩
  | gridClockAdvance => exact ⟨_, rfl, State.Change.millisecond.does.effect⟩

/-- What a step does: it idles, or runs the command at the front of the queue. -/
theorem step_effect {s t : State} (h : step s = .next t) : s.Effect t := by
  unfold step at h
  split at h
  · cases h
    exact (State.Does.refl s).effect
  · next c rest _ =>
    obtain ⟨t', hexec, heffect⟩ := exec_effect c { s with pending := rest }
    rw [hexec] at h
    cases h
    have hrest : s.Quiet { s with pending := rest } := ⟨rfl, .of_eq rfl rfl rfl rfl rfl⟩
    exact hrest.then_effect heffect

/-- What holds before a step, and is kept by quiet changes and link updates, gives what a command's change establishes and
quiet changes keep. -/
theorem step_establishes {P Q : State → Prop} (hquiet : ∀ s t : State, s.Quiet t → P s → P t)
    (hintake : ∀ (s : State) n l e, s.robot n = some e → P s → P (s.linkUpdate n l e))
    (hchange : ∀ s t : State, s.Change t → P s → Q t) (hquiet' : ∀ s t : State, s.Quiet t → Q s → Q t) {s t : State}
    (hstep : step s = .next t) (hs : P s) : Q t := by
  obtain ⟨u, v, hsu, huv, v', w, hv, hvw, hwt⟩ := step_effect hstep
  have hu := hquiet _ _ hsu hs
  have hv' : P v := by
    rcases huv with rfl | ⟨n, l, e, he, rfl⟩
    · exact hu
    · exact hintake _ n l e he hu
  exact hquiet' _ _ hwt (hchange _ _ hvw (hquiet _ _ hv hv'))

end Sys2Proof.Machine
end

section
/-! SUPPORT. What the changes write: the record in one slot, the deadline list and the plans, and beside them only what the
laws of records and deadlines do not see. -/

namespace Sys2Proof.Machine

/-! ## Side effects -/

/-- The last link of a robot, if it is enrolled and has one (R146). -/
def State.lastLink (s : State) (n : Nat) : Option Link := (s.robot n).bind (·.lastLink)

/-- A change beside the records, the deadline list and the plans: stacks and reservations of cells, party references and
misses of robots, pickup queues, notices. -/
structure State.Side (s t : State) : Prop where
  records : t.engine.records = s.engine.records
  gens : t.engine.gens = s.engine.gens
  freeSlots : t.engine.freeSlots = s.engine.freeSlots
  binIndex : t.engine.binIndex = s.engine.binIndex
  timer : t.timer = s.timer
  plans : t.plans = s.plans
  linkUp : ∀ l, t.linkUp l = s.linkUp l
  lastLink : ∀ n, t.lastLink n = s.lastLink n
  ranges : s.RangesKept t

theorem State.Quiet.side {s t : State} (h : s.Quiet t) : s.Side t :=
  ⟨h.records, h.gens, h.freeSlots, h.binIndex, h.timer, h.plans, h.linkUp,
    fun n => by simp only [State.lastLink, h.robot], h.ranges⟩

namespace State.Side

variable {s t u : State}

theorem refl (s : State) : s.Side s := (State.Quiet.refl s).side

theorem trans (h : s.Side t) (k : t.Side u) : s.Side u :=
  ⟨k.records.trans h.records, k.gens.trans h.gens, k.freeSlots.trans h.freeSlots, k.binIndex.trans h.binIndex,
    k.timer.trans h.timer, k.plans.trans h.plans, fun l => (k.linkUp l).trans (h.linkUp l),
    fun n => (k.lastLink n).trans (h.lastLink n), h.ranges.trans k.ranges⟩

/-- The same record written, after a side effect or before it. -/
theorem putRecord (h : s.Side t) (slot : Nat) (r : Record) : (s.putRecord slot r).Side (t.putRecord slot r) :=
  ⟨congrArg (Table.put · slot r) h.records, h.gens, h.freeSlots, h.binIndex, h.timer, h.plans, h.linkUp, h.lastLink,
    ⟨h.ranges.legCounts, h.ranges.legMasks, h.ranges.accepts, h.ranges.floors, h.ranges.overrides, h.ranges.hopLimits,
      h.ranges.windows⟩⟩

theorem modTimer (h : s.Side t) (f : DeadlineTimer → DeadlineTimer) : (s.modTimer f).Side (t.modTimer f) :=
  ⟨h.records, h.gens, h.freeSlots, h.binIndex, congrArg f h.timer, h.plans, h.linkUp, h.lastLink,
    ⟨h.ranges.legCounts, h.ranges.legMasks, h.ranges.accepts, h.ranges.floors, h.ranges.overrides, h.ranges.hopLimits,
      h.ranges.windows⟩⟩

end State.Side

section
variable (s : State)

theorem State.side_pickup (pickup : Table (List PickupEntry)) : s.Side { s with pickup := pickup } :=
  ⟨rfl, rfl, rfl, rfl, rfl, rfl, fun _ => rfl, fun _ => rfl, .of_eq rfl rfl rfl rfl rfl⟩

theorem State.side_enter (h : Handle) (mask : Byte) (priority : Nat) (seq : Word) : s.Side (s.enter h mask priority seq) :=
  s.side_pickup _

theorem State.side_leave (h : Handle) : s.Side (s.leave h) := s.side_pickup _

theorem State.side_maskChange (h : Handle) (old new : Byte) (priority : Nat) (seq : Word) :
    s.Side (s.maskChange h old new priority seq) := by
  unfold State.maskChange
  split
  · exact s.side_pickup _
  · exact .refl s

theorem State.side_modCells (f : Table Cell → Table Cell) (hf : Table.Derives Cell.accept s.engine.cells (f s.engine.cells)) :
    s.Side (s.modEngine fun e => { e with cells := f e.cells }) :=
  ⟨rfl, rfl, rfl, rfl, rfl, rfl, fun _ => rfl, fun _ => rfl, .of_derives (.refl _ _) hf rfl rfl rfl⟩

theorem State.side_modCell (n : Nat) (f : Cell → Cell) (hf : ∀ c, (f c).accept = c.accept) : s.Side (s.modCell n f) := by
  rw [State.modCell_eq_modify]
  exact s.side_modCells (·.modify n f) (.modify hf _ _)

theorem State.side_putCell {n : Nat} {c c' : Cell} (hc : s.cell n = some c) (h : c'.accept = c.accept) :
    s.Side (s.putCell n c') :=
  s.side_modCells (·.put n c') fun p hp => (Table.mem_put hp).elim
    (fun e => ⟨_, Table.mem_of_look hc, by rw [e]; exact h.symm⟩) fun hp => ⟨p, hp, rfl⟩

theorem State.side_modRobot (n : Nat) (f : Robot → Robot) (hf : ∀ e, (f e).lastLink = e.lastLink) :
    s.Side (s.modRobot n f) := by
  rw [State.modRobot_eq_modify]
  refine ⟨rfl, rfl, rfl, rfl, rfl, rfl, fun _ => rfl, fun m => ?_, .of_eq rfl rfl rfl rfl rfl⟩
  simp only [State.lastLink, State.robot, State.modEngine_engine, Table.look_modify]
  split
  · next hm => rw [hm]; cases s.engine.roster.look n <;> simp [hf]
  · rfl

theorem State.side_setParty (n : Nat) (p : Option (Handle × Role)) : s.Side (s.setParty n p) :=
  s.side_modRobot n _ fun _ => rfl

theorem State.side_closeCheck (n : Nat) : s.Side (s.closeCheck n) := by
  unfold State.closeCheck
  split
  · exact .refl s
  next c hc =>
  split
  · exact (s.side_putCell (c' := { c with state := .closed }) hc rfl).trans (State.quiet_countEvent _ _ _ _).side
  · exact .refl s

theorem State.side_uncover (n : Nat) : s.Side (s.uncover n) := by
  rw [State.uncover_eq]
  exact s.side_pickup _

theorem State.side_unstack (n : Nat) (h : Handle) : s.Side (s.unstack n h) := by
  have hcell := s.side_modCell n (fun c => { c with stack := c.stack.filter fun x => x ≠ h }) fun _ => rfl
  simp only [State.unstack]
  split
  · exact hcell.trans (State.side_uncover _ _)
  · exact hcell

theorem State.side_unreserve (n : Nat) : s.Side (s.unreserve n) := s.side_modCell n _ fun _ => rfl

end

/-! ## What each change of a record writes -/

/-- A record, the deadline list and the plans written, and nothing else. -/
def State.rewritten (s : State) (slot : Nat) (r : Record) (list : List Deadline) (plans : Table Plan) : State :=
  { s with
    engine := { s.engine with records := s.engine.records.put slot r }
    timer := { s.timer with list := list }
    plans := plans }

/-- The deadline list without a record's entry (R138). -/
def State.disarmed (s : State) (h : Handle) : List Deadline := s.timer.list.filter fun d => d.handle ≠ h

/-- The timing a booking or claim starts with, and the deadline list then (R61, R68, R135, R137). -/
def State.startedTiming (s : State) (l : Link) (window : Nat) : Timing :=
  if s.linkUp l then .armed (s.timer.clock + wordOf (window * 250)) else .held (window * 250)

def State.startedList (s : State) (h : Handle) (kind : DeadlineKind) (l : Link) (window : Nat) : List Deadline :=
  if s.linkUp l then insertDeadline ⟨s.timer.clock + wordOf (window * 250), h, kind, false⟩ s.timer.list else s.timer.list

theorem State.startTiming_eq (s : State) (h : Handle) (kind : DeadlineKind) (l : Link) (window : Nat) :
    s.startTiming h kind l window =
      (s.modTimer fun t => { t with list := s.startedList h kind l window }, s.startedTiming l window) := by
  unfold State.startTiming State.startedList State.startedTiming
  split <;> rfl

/-- Timings start alike after a side effect. -/
theorem State.Side.startedTiming {s t : State} (h : s.Side t) (l : Link) (window : Nat) :
    t.startedTiming l window = s.startedTiming l window := by
  simp only [State.startedTiming, h.linkUp, h.timer]

theorem State.Side.startedList {s t : State} (h : s.Side t) (x : Handle) (kind : DeadlineKind) (l : Link) (window : Nat) :
    t.startedList x kind l window = s.startedList x kind l window := by
  simp only [State.startedList, h.linkUp, h.timer]

section
variable (s : State) (h : Handle) (r : Record)

/-- The record that a BOOK leaves (R60, R61). -/
def bookedRecord (r : Record) (n k : Nat) (receiver : Option Nat) (m : Option (Nat × Rule)) (timing : Timing) : Record :=
  { r with
    priority := max r.priority ((m.map (·.2.floor)).getD 0)
    custody := .booked n k receiver (m.bind fun p => if p.2.overrides then some p.2.overrideMask else none) timing }

theorem State.side_bookRecord (n : Nat) (l : Link) (k : Nat) (receiver : Option Nat) (m : Option (Nat × Rule)) :
    (s.rewritten h.slot (bookedRecord r n k receiver m (s.startedTiming l (s.ports.robotLink l).bookWindow))
      (s.startedList h .booking l (s.ports.robotLink l).bookWindow) s.plans).Side (s.bookRecord n l h r k receiver m) := by
  have hcell := s.side_modCell k (fun c =>
    { c with
      reserved := c.reserved + 1
      admissions := if c.state = .draining then c.admissions - 1 else c.admissions }) fun _ => rfl
  simp only [State.bookRecord, State.startTiming_eq, hcell.startedTiming, hcell.startedList]
  have hlist := hcell.modTimer fun t => { t with list := s.startedList h .booking l (s.ports.robotLink l).bookWindow }
  exact (hlist.putRecord _ _).trans (State.side_closeCheck _ _)

theorem State.side_endBooking (carrier k : Nat) (lapsed : Option Nat) :
    (s.rewritten h.slot { r with custody := .carried carrier lapsed } (s.disarmed h) s.plans).Side
      (s.endBooking h r carrier k lapsed) :=
  (((s.disarm h).side_unreserve k).putRecord _ _).trans (State.side_closeCheck _ _)

theorem State.side_stageRecord (carrier k : Nat) (receiver : Option Nat) (mask : Byte) :
    (s.rewritten h.slot
      { r with presentZone := s.cellZone k, custody := .staged ⟨carrier, k, s.engine.stageSeq, mask, receiver⟩ none }
      (s.disarmed h) s.plans).Side (s.stageRecord h r carrier k receiver mask) := by
  have hseq : s.Side (s.modEngine fun e => { e with stageSeq := e.stageSeq + 1 }) :=
    ⟨rfl, rfl, rfl, rfl, rfl, rfl, fun _ => rfl, fun _ => rfl, .of_eq rfl rfl rfl rfl rfl⟩
  have hburied : s.Side (match s.cellTop k with
      | some t => (s.modEngine fun e => { e with stageSeq := e.stageSeq + 1 }).leave t
      | none => s.modEngine fun e => { e with stageSeq := e.stageSeq + 1 }) := by
    split
    · exact hseq.trans (State.side_leave _ _)
    · exact hseq
  have hstack := (hburied.trans (State.side_modCell _ k (fun c =>
    { c with stack := c.stack ++ [h], reserved := c.reserved - 1 }) fun _ => rfl)).modTimer
      fun t => { t with list := t.list.filter fun e => e.handle ≠ h }
  exact (((hstack.trans (State.side_setParty _ carrier none)).putRecord _ _).trans (State.side_enter _ _ _ _ _)).trans
    (State.quiet_countEvent _ _ _ _).side

theorem State.side_grant (n : Nat) (l : Link) (spot : Spot) :
    (s.rewritten h.slot
      { r with custody := .claimed spot n (s.startedTiming l (s.ports.robotLink l).claimWindow) }
      (s.startedList h .claim l (s.ports.robotLink l).claimWindow) s.plans).Side (s.grant n l h r spot) := by
  have hparty := (s.side_leave h).trans (State.side_setParty _ n (some (h, .claimant)))
  simp only [State.grant, State.startTiming_eq, hparty.startedTiming, hparty.startedList]
  have hlist := hparty.modTimer fun t => { t with list := s.startedList h .claim l (s.ports.robotLink l).claimWindow }
  exact hlist.putRecord _ _

theorem State.side_endClaim (spot : Spot) (claimant : Nat) (lapsed : Option Nat) :
    (s.rewritten h.slot { r with custody := .staged spot lapsed } (s.disarmed h) s.plans).Side
      (s.endClaim h r spot claimant lapsed) :=
  (((s.disarm h).side_setParty claimant none).putRecord _ _).trans (State.side_enter _ _ _ _ _)

theorem State.side_claimLapse (spot : Spot) (claimant : Nat) :
    (s.rewritten h.slot { r with custody := .staged spot (some claimant) } (s.disarmed h) s.plans).Side
      (s.claimLapse h r spot claimant) := by
  have hmisses := (s.side_endClaim h r spot claimant (some claimant)).trans (State.side_modRobot _ claimant
    (fun x => { x with misses := missesAfter (s.robot claimant) }) fun _ => rfl)
  have hnotices : ∀ (t : State) q n e z a, t.Side ((t.post q n).countEvent e z a) := fun t q n e z a =>
    ((t.quiet_post q n).trans (State.quiet_countEvent _ e z a)).side
  refine hmisses.trans ?_
  simp only [State.claimLapse]
  split
  · exact ((hnotices _ _ _ _ _ _).trans (State.side_modRobot _ claimant (fun x => { x with suspended := true })
      fun _ => rfl)).trans (State.quiet_post _ _ _).side
  · exact hnotices _ _ _ _ _ _

theorem State.side_takeupRecord (spot : Spot) (claimant : Nat) :
    (s.rewritten h.slot (takenUp r claimant) (s.disarmed h) s.plans).Side (s.takeupRecord h r spot claimant) := by
  have hparty := (s.disarm h).side_modRobot claimant (fun e => { e with party := some (h, .carrier), misses := 0 })
    fun _ => rfl
  exact (((hparty.putRecord _ _).trans (State.side_unstack _ _ _)).trans (State.quiet_countEvent _ _ _ _).side).trans
    (State.side_closeCheck _ _)

/-- A visit of a live record writes the record accrued (R169 to R171). -/
theorem State.side_visit {slot : Nat} {r : Record} (hr : s.engine.records.look slot = some r) :
    (s.rewritten slot (r.accrued (s.accrualOf r)) s.timer.list s.plans).Side (s.visit slot) := by
  have hput : ∀ t : State, t.Quiet (if s.accrualOf r > 0 then t.countEvent .accrual r.presentZone (s.accrualOf r) else t) :=
    fun t => by
      split
      · exact t.quiet_countEvent _ _ _
      · exact .refl t
  have hwarn : ∀ t : State, t.Quiet (if (r.accrued (s.accrualOf r)).warned && !r.warned then
      t.post .thermal (dwellNotice .dwellWarn (s.handleOf slot) r) else t) := fun t => by
    split
    · exact t.quiet_post _ _
    · exact .refl t
  have hquiet := (hput (s.putRecord slot (r.accrued (s.accrualOf r)))).trans (hwarn _)
  simp only [State.visit, hr]
  split
  · exact ((hquiet.trans (State.quiet_post _ _ _)).trans
      (State.quiet_modEngine _ (fun e => { e with overdues := e.overdues ++ [s.handleOf slot] }) rfl)).side
  · exact hquiet.side

end

end Sys2Proof.Machine
end

section
/-! SUPPORT. The overdue event, the alignment of a hold, opening and retirement as writes of a record, and the ranges that
every change keeps. -/

namespace Sys2Proof.Machine

theorem State.RangesKept.congr {s t s' t' : State} (h : s.RangesKept t) (hplans : s'.plans = t'.plans)
    (hcells : s'.engine.cells = s.engine.cells) (hcells' : t'.engine.cells = t.engine.cells) (hrules : s'.rules = s.rules)
    (hrules' : t'.rules = t.rules) (hdwell : s'.dwell = s.dwell) (hdwell' : t'.dwell = t.dwell)
    (hports : s'.ports = s.ports) (hports' : t'.ports = t.ports) : s'.RangesKept t' :=
  ⟨hplans ▸ id, hplans ▸ id, hcells ▸ hcells' ▸ h.accepts, hrules ▸ hrules' ▸ h.floors, hrules ▸ hrules' ▸ h.overrides,
    hdwell ▸ hdwell' ▸ h.hopLimits, hports ▸ hports' ▸ h.windows⟩

/-- The same record, list and plans written, after a side effect or before it. -/
theorem State.Side.rewritten {s t : State} (h : s.Side t) (slot : Nat) (r : Record) (list : List Deadline)
    (plans : Table Plan) : (s.rewritten slot r list plans).Side (t.rewritten slot r list plans) :=
  ⟨congrArg (Table.put · slot r) h.records, h.gens, h.freeSlots, h.binIndex,
    congrArg (fun x : DeadlineTimer => { x with list := list }) h.timer, rfl, h.linkUp, h.lastLink,
    h.ranges.congr rfl rfl rfl rfl rfl rfl rfl rfl rfl⟩

/-! ## The overdue event -/

/-- The plans after a switch: the plan left counts one less, the plan taken one more (R118). -/
def plansSwitched (plans : Table Plan) (old : Option Route) (new : Nat) : Table Plan :=
  (plansLeft plans old).modify new Plan.up

theorem State.side_rescue (s : State) (h : Handle) (r : Record) (k : Nat) (p : Plan) :
    (s.rewritten h.slot (r.switched k p) s.timer.list (plansSwitched s.plans r.route k)).Side (s.rescue h r k p) := by
  have hmask : ∀ t : State, t.Side (match r.custody.spot, (r.switched k p).custody.spot with
      | some old, some new => if s.stagedTop h r then t.maskChange h old.mask new.mask r.priority old.seq else t
      | _, _ => t) := fun t => by
    split
    · split
      · exact t.side_maskChange _ _ _ _ _
      · exact .refl t
    · exact .refl t
  have hrescue : s.rescue h r k p = State.post
      (match r.custody.spot, (r.switched k p).custody.spot with
        | some old, some new =>
          if s.stagedTop h r then
            ((s.modPlans fun _ => plansSwitched s.plans r.route k).putRecord h.slot (r.switched k p)).maskChange h old.mask
              new.mask r.priority old.seq
          else (s.modPlans fun _ => plansSwitched s.plans r.route k).putRecord h.slot (r.switched k p)
        | _, _ => (s.modPlans fun _ => plansSwitched s.plans r.route k).putRecord h.slot (r.switched k p)) .thermal
      (recordNotice .rescueApplied h r r.custody.party r.custody.cell r.presentZone (byteOf k)) := by
    simp only [State.rescue, State.planUp, State.planDown, State.modPlan_eq_modify]
    cases r.route <;> rfl
  rw [hrescue]
  exact (hmask _).trans (State.quiet_post _ _ _).side

/-- An overdue event taken for a live record raises its priority and, when its class names a defined plan, switches it onto
that plan (R127, R172). -/
theorem State.side_overdueTaken {s : State} {h : Handle} {r : Record} (hr : s.recordOf h = some r) :
    (s.rewritten h.slot { r with priority := 3 } s.timer.list s.plans).Side (s.overdueTaken h) ∨
      ∃ k p, s.plans.look k = some p ∧
        (s.rewritten h.slot ({ r with priority := 3 }.switched k p) s.timer.list (plansSwitched s.plans r.route k)).Side
          (s.overdueTaken h) := by
  have hraised : (s.putRecord h.slot { r with priority := 3 }).Side
      (if s.stagedTop h r then (s.putRecord h.slot { r with priority := 3 }).priorityChange h 3
       else s.putRecord h.slot { r with priority := 3 }) := by
    split
    · exact State.side_pickup _ _
    · exact .refl _
  simp only [State.overdueTaken, hr]
  generalize (if s.stagedTop h r then (s.putRecord h.slot { r with priority := 3 }).priorityChange h 3
       else s.putRecord h.slot { r with priority := 3 }) = t at hraised ⊢
  have hcount : ∀ u : State, u.Side (u.countEvent .overdue r.presentZone 0) := fun u => (u.quiet_countEvent _ _ _).side
  unfold State.decideRescue
  split
  · exact .inl (hraised.trans (hcount t))
  split
  · exact .inl (hraised.trans (hcount t))
  next k _ =>
  split
  · exact .inl ((hraised.trans (t.quiet_post _ _).side).trans (hcount _))
  · next p hp =>
    have hswitched : (s.rewritten h.slot ({ r with priority := 3 }.switched k p) s.timer.list
        (plansSwitched s.plans r.route k)).Side (t.rescue h { r with priority := 3 } k p) := by
      have hside := t.side_rescue h { r with priority := 3 } k p
      rw [hraised.timer, hraised.plans] at hside
      refine State.Side.trans ?_ hside
      have hput := hraised.rewritten h.slot ({ r with priority := 3 }.switched k p) s.timer.list
        (plansSwitched s.plans r.route k)
      have hsame : (s.putRecord h.slot { r with priority := 3 }).rewritten h.slot ({ r with priority := 3 }.switched k p)
          s.timer.list (plansSwitched s.plans r.route k) =
          s.rewritten h.slot ({ r with priority := 3 }.switched k p) s.timer.list (plansSwitched s.plans r.route k) := by
        simp only [State.rewritten, State.putRecord, State.modEngine, Table.put_put]
      rwa [hsame] at hput
    exact .inr ⟨k, p, hraised.plans ▸ hp, hswitched.trans (hcount _)⟩

/-! ## Bringing a hold into line -/

/-- A BOOKED or CLAIMED record with another timing. -/
def Record.timed (r : Record) (timing : Timing) : Record := r.retimed fun _ => timing

/-- The record in a slot is in line already, or its hold ends on a link that is UP, or begins on one that is DOWN (R50, R146,
R147). -/
theorem State.alignHold_cases (s : State) (slot : Nat) (up : Bool) :
    (s.alignHold slot up = s ∧
      ∀ r, s.engine.records.look slot = some r → r.custody.timing.isSome = true → r.isArmed = up) ∨
    (up = true ∧ ∃ r saved, s.engine.records.look slot = some r ∧ r.custody.timing = some (.held saved) ∧
      s.alignHold slot up = s.rewritten slot (r.timed (.armed (s.timer.clock + wordOf saved)))
        (insertDeadline ⟨s.timer.clock + wordOf saved, s.handleOf slot, r.deadlineKind, false⟩ s.timer.list) s.plans) ∨
    (up = false ∧ ∃ r d, s.engine.records.look slot = some r ∧ r.custody.timing = some (.armed d) ∧
      s.alignHold slot up = s.rewritten slot (r.timed (.held (timeLeft s.timer.clock d))) (s.disarmed (s.handleOf slot))
        s.plans) := by
  cases hr : s.engine.records.look slot with
  | none => exact .inl ⟨by simp only [State.alignHold, hr], fun r h => by cases h⟩
  | some r =>
    simp only [State.alignHold, hr, Option.some.injEq, forall_eq', exists_and_left, exists_eq_left', Record.isArmed,
      Record.timed, Record.retimed, Record.deadlineKind]
    cases hc : r.custody with
    | carried | staged => exact .inl ⟨rfl, by simp [Custody.timing]⟩
    | booked _ _ _ _ timing | claimed _ _ timing =>
      cases timing <;> cases up <;> simp [Custody.timing, State.alignTiming] <;> rfl

/-! ## Opening and retirement -/

/-- A record in the head slot, with its bin ID and plan, and nothing else. -/
def State.added (s : State) (slot : Nat) (r : Record) : State :=
  { s with
    engine :=
      { s.engine with
        freeSlots := s.engine.freeSlots.tail
        records := s.engine.records.put slot r
        binIndex := s.engine.binIndex.put r.bin slot }
    plans := plansJoined s.plans r.route }

/-- A record gone from its slot, the Bin Index, the deadline list and its plan, and nothing else. -/
def State.removed (s : State) (h : Handle) (r : Record) : State :=
  { s with
    engine :=
      { s.engine with
        records := s.engine.records.del h.slot
        gens := s.engine.gens.putD 0 h.slot ((s.generation h.slot + 1) % 16)
        freeSlots := s.engine.freeSlots ++ [h.slot]
        binIndex := s.engine.binIndex.del r.bin }
    timer := { s.timer with list := s.disarmed h }
    plans := plansLeft s.plans r.route }

/-- The last link that a roster gives a robot. -/
theorem lastLink_modify (roster : Table Robot) (n m : Nat) (p : Option (Handle × Role)) :
    ((roster.modify n fun e => { e with party := p }).look m).bind (·.lastLink) = (roster.look m).bind (·.lastLink) := by
  rw [Table.look_modify]
  split
  · next hm => rw [hm]; cases roster.look n <;> rfl
  · rfl

theorem State.side_openRecord (s : State) (n slot : Nat) (r : Record) : (s.added slot r).Side (s.openRecord n slot r) := by
  rw [State.openRecord_eq]
  exact ⟨rfl, rfl, rfl, rfl, rfl, rfl, fun _ => rfl, fun m => lastLink_modify _ _ _ _, .of_eq rfl rfl rfl rfl rfl⟩

theorem State.Side.added {s t : State} (h : s.Side t) (slot : Nat) (r : Record) : (s.added slot r).Side (t.added slot r) :=
  ⟨congrArg (Table.put · slot r) h.records, h.gens, congrArg List.tail h.freeSlots,
    congrArg (Table.put · r.bin slot) h.binIndex, h.timer, congrArg (plansJoined · r.route) h.plans, h.linkUp, h.lastLink,
    h.ranges.congr (congrArg (plansJoined · r.route) h.plans.symm) rfl rfl rfl rfl rfl rfl rfl rfl⟩

theorem cellsLeft_derives (cells : Table Cell) (h : Handle) (c : Custody) :
    Table.Derives Cell.accept cells (cellsLeft cells h c) := by
  cases c with
  | carried => exact .refl _ _
  | booked => exact .modify (f := Cell.unreserved) (fun _ => rfl) _ _
  | staged | claimed => exact .modify (f := fun x : Cell => x.without h) (fun _ => rfl) _ _

theorem State.side_retire (s : State) (h : Handle) (r : Record) : (s.removed h r).Side (s.retire h r) := by
  have hretired : ∀ pickup, (s.removed h r).Side (s.retired h r pickup) := fun pickup =>
    ⟨rfl, rfl, rfl, rfl, rfl, rfl, fun _ => rfl, fun m => by
        cases hp : r.custody.party with
        | none => simp only [State.retired, State.lastLink, State.robot, hp, rosterFreed]; rfl
        | some n =>
          simp only [State.retired, State.lastLink, State.robot, hp, rosterFreed]
          exact lastLink_modify _ _ _ _,
      .of_derives (.refl _ _) (cellsLeft_derives _ _ _) rfl rfl rfl⟩
  rw [State.retire_eq]
  simp only
  split
  · exact (hretired _).trans (State.side_closeCheck _ _)
  · exact hretired _

/-! ## Ranges -/

theorem plansJoined_derives (plans : Table Plan) (route : Option Route) :
    Table.Derives Plan.legs plans (plansJoined plans route) := by
  cases route with
  | none => exact .refl _ _
  | some _ => exact .modify (f := Plan.up) (fun _ => rfl) _ _

theorem plansLeft_derives (plans : Table Plan) (route : Option Route) :
    Table.Derives Plan.legs plans (plansLeft plans route) := by
  cases route with
  | none => exact .refl _ _
  | some _ => exact .modify (f := Plan.down) (fun _ => rfl) _ _

theorem plansSwitched_derives (plans : Table Plan) (old : Option Route) (new : Nat) :
    Table.Derives Plan.legs plans (plansSwitched plans old new) :=
  (plansLeft_derives plans old).trans (.modify (f := Plan.up) (fun _ => rfl) _ _)

theorem State.RangesKept.rewritten (s : State) (slot : Nat) (r : Record) (list : List Deadline) {plans : Table Plan}
    (h : Table.Derives Plan.legs s.plans plans) : s.RangesKept (s.rewritten slot r list plans) :=
  .of_derives h (.refl _ _) rfl rfl rfl

theorem State.Side.rangesKept {s u : State} {slot : Nat} {r : Record} {list : List Deadline}
    (h : (s.rewritten slot r list s.plans).Side u) : s.RangesKept u :=
  (State.RangesKept.rewritten s slot r list (.refl _ _)).trans h.ranges

/-- Bringing holds into line touches no setting. -/
theorem State.alignLink_eq (s : State) (l : Link) (up : Bool) :
    ∃ records list, s.alignLink l up =
      { s with engine := { s.engine with records := records }, timer := { s.timer with list := list } } := by
  unfold State.alignLink
  generalize s.engine.records = original
  suffices h : ∀ t : State, (∃ records list,
      t = { s with engine := { s.engine with records := records }, timer := { s.timer with list := list } }) →
      ∃ records list, original.foldl (fun t p => if t.partyOn p.2 l then t.alignHold p.1 up else t) t =
        { s with engine := { s.engine with records := records }, timer := { s.timer with list := list } } from
    h s ⟨_, _, rfl⟩
  induction original with
  | nil => exact fun t h => h
  | cons p original ih =>
    rintro t ⟨records, list, rfl⟩
    refine ih _ ?_
    dsimp only
    split
    · obtain ⟨records', list', heq⟩ := State.alignHold_eq
        { s with engine := { s.engine with records := records }, timer := { s.timer with list := list } } p.1 up
      exact ⟨records', list', heq⟩
    · exact ⟨_, _, rfl⟩

/-- A device reset leaves the state after reset, but for what is not the part's. -/
theorem State.quiet_deviceReset (s : State) : State.reset.Quiet s.deviceReset := ⟨rfl, .of_eq rfl rfl rfl rfl rfl⟩

theorem State.RangesKept.of_reset (s : State) : s.RangesKept s.deviceReset := by
  have hplans : s.deviceReset.plans = [] := rfl
  have hcells : s.deviceReset.engine.cells = [] := rfl
  have hrules : s.deviceReset.rules = [] := rfl
  have hdwell : s.deviceReset.dwell = DwellUnit.reset := rfl
  have hlink : ∀ l, s.deviceReset.ports.robotLink l = .reset := fun l => by cases l <;> rfl
  refine ⟨?_, ?_, ?_, ?_, ?_, fun _ c => ?_, fun _ l => ?_⟩
  · simp [hplans]
  · simp [hplans]
  · simp [hcells]
  · simp [hrules]
  · simp [hrules]
  · rw [hdwell]
    cases c <;> decide
  · rw [hlink]
    decide

theorem State.RangesKept.of_putCell (s : State) (n : Nat) {c : Cell} (h : c.accept ≠ 0) : s.RangesKept (s.putCell n c) :=
  ⟨id, id, fun hs p hp => (Table.mem_put hp).elim (fun e => e ▸ h) (hs p), id, id, id, id⟩

/-- Every change keeps what the host sets in range. -/
theorem State.Change.ranges {s t : State} (h : s.Change t) : s.RangesKept t := by
  cases h with
  | none => exact .refl s
  | declared _ _ _ _ _ _ _ _ m notice _ _ _ _ _ _ _ hm =>
    have hadded : ∀ u : State, ∀ slot r, u.RangesKept (u.added slot r) := fun u slot r =>
      .of_derives (plansJoined_derives _ _) (.refl _ _) rfl rfl rfl
    exact (s.quiet_takeRule m hm notice false).ranges.trans ((hadded _ _ _).trans (State.side_openRecord _ _ _ _).ranges)
  | booked _ _ _ _ _ _ _ _ m notice _ _ _ _ _ _ hm =>
    exact (s.quiet_takeRule m hm notice false).ranges.trans (State.side_bookRecord _ _ _ _ _ _ _ _).rangesKept
  | bookingEnded => exact (State.side_endBooking _ _ _ _ _ _).rangesKept
  | staged => exact (State.side_stageRecord _ _ _ _ _ _ _).rangesKept
  | granted => exact (State.side_grant _ _ _ _ _ _).rangesKept
  | claimEnded => exact (State.side_endClaim _ _ _ _ _ _).rangesKept
  | claimLapsed => exact (State.side_claimLapse _ _ _ _ _).rangesKept
  | takenUp => exact (State.side_takeupRecord _ _ _ _ _).rangesKept
  | retired h r =>
    have hremoved : s.RangesKept (s.removed h r) := .of_derives (plansLeft_derives _ _) (.refl _ _) rfl rfl rfl
    exact hremoved.trans (State.side_retire _ _ _).ranges
  | visited slot =>
    cases hr : s.engine.records.look slot with
    | none => simp only [State.visit, hr]; exact .refl s
    | some r => exact (State.side_visit s hr).rangesKept
  | overdue h =>
    cases hr : s.recordOf h with
    | none => simp only [State.overdueTaken, hr]; exact .refl s
    | some r =>
      rcases State.side_overdueTaken hr with hside | ⟨k, p, -, hside⟩
      · exact hside.rangesKept
      · exact (State.RangesKept.rewritten s _ _ _ (plansSwitched_derives _ _ _)).trans hside.ranges
  | linkTurned l up f _ hwindows =>
    obtain ⟨records, list, heq⟩ := State.alignLink_eq (s.modPorts fun p => p.modLink l f) l up
    rw [heq]
    refine ⟨id, id, id, id, id, id, fun h m => ?_⟩
    simp only [State.modPorts, PortUnit.robotLink_modLink]
    split
    · rw [(hwindows _).1, (hwindows _).2]; exact h m
    · exact h m
  | cellWritten n b check haccept => exact .of_putCell s n haccept
  | cellDeleted n c =>
    exact ⟨id, id, fun hs p hp => hs p (Table.mem_del hp), id, id, id, id⟩
  | cellDrained n c admissions hc => exact ((s.side_putCell (c' := { c with state := .draining, admissions := admissions }) hc rfl).trans
      (State.side_closeCheck _ _)).ranges
  | cellReopened n c hc => exact (s.side_putCell (c' := { c with state := .opened, admissions := 0 }) hc rfl).ranges
  | robotEnrolled | robotWritten | robotWithdrawn => exact .of_eq rfl rfl rfl rfl rfl
  | millisecond => exact ⟨id, id, id, id, id, id, fun h l => by cases l; exacts [h .a, h .b]⟩
  | planWritten n legs hcount hmasks =>
    exact ⟨fun hs p hp => (Table.mem_put hp).elim (fun e => e ▸ hcount) (hs p),
      fun hs p hp => (Table.mem_put hp).elim (fun e => e ▸ hmasks) (hs p), id, id, id, id, id⟩
  | planCleared n =>
    exact ⟨fun hs p hp => hs p (Table.mem_del hp), fun hs p hp => hs p (Table.mem_del hp), id, id, id, id, id⟩
  | expiryRaised =>
    unfold State.raiseExpiry
    split
    · exact .refl s
    · exact .of_eq rfl rfl rfl rfl rfl
  | deviceReset => exact .of_reset s

theorem State.RangesKept.linkUpdate (s : State) (n : Nat) (l : Link) (e : Robot) : s.RangesKept (s.linkUpdate n l e) := by
  unfold State.linkUpdate
  split
  · next h _ _ =>
    obtain ⟨records, list, heq⟩ := (s.putRobot n { e with lastLink := some l }).alignHold_eq h.slot
      ((s.putRobot n { e with lastLink := some l }).linkUp l)
    rw [heq]
    exact .of_eq rfl rfl rfl rfl rfl
  · exact .of_eq rfl rfl rfl rfl rfl

end Sys2Proof.Machine
end

section
/-! SUPPORT. What the changes do to the Handover Table, its slots, the Bin Index and the plans. -/

namespace Sys2Proof.Machine

/-- The tables that say which records live and which plans they follow. -/
structure TableView where
  records : Table Record
  gens : Table Nat
  freeSlots : List Nat
  binIndex : Table Nat
  plans : Table Plan

def State.tables (s : State) : TableView :=
  ⟨s.engine.records, s.engine.gens, s.engine.freeSlots, s.engine.binIndex, s.plans⟩

theorem State.Side.tables {s t : State} (h : s.Side t) : t.tables = s.tables := by
  simp only [State.tables, h.records, h.gens, h.freeSlots, h.binIndex, h.plans]

theorem State.Quiet.tables {s t : State} (h : s.Quiet t) : t.tables = s.tables := h.side.tables

theorem State.recordOf_congr {s t : State} (h : t.tables = s.tables) (x : Handle) : t.recordOf x = s.recordOf x := by
  have hr : t.engine.records = s.engine.records := congrArg TableView.records h
  have hg : t.engine.gens = s.engine.gens := congrArg TableView.gens h
  unfold State.recordOf State.generation
  rw [hr, hg]

/-- How a change writes a live record, with what is known of it then. -/
inductive State.RecordChange (s : State) (r : Record) : Record → Prop
  | custody (c : Custody) (hcarried : c.state ≠ .carried → r.custody.state ≠ .carried)
      (hspot : ∀ spot, c.spot = some spot → r.custody.spot = some spot)
      (hover : ∀ m, c.receiverOverride = some m → r.custody.receiverOverride = some m) :
      s.RecordChange r { r with custody := c }
  | booked (n k : Nat) (receiver : Option Nat) (m : Option (Nat × Rule)) (timing : Timing)
      (hm : ∀ p, m = some p → p ∈ s.rules) (hhops : r.hops < r.hopLimit) :
      s.RecordChange r (bookedRecord r n k receiver m timing)
  | staged (carrier k : Nat) (receiver : Option Nat) (ov : Option Byte) (timing : Timing)
      (hcustody : r.custody = .booked carrier k receiver ov timing) :
      s.RecordChange r
        { r with
          presentZone := s.cellZone k
          custody := .staged ⟨carrier, k, s.engine.stageSeq, s.setdownMask r k ov, receiver⟩ none }
  | takenUp (spot : Spot) (claimant : Nat) (timing : Timing) (hcustody : r.custody = .claimed spot claimant timing) :
      s.RecordChange r (takenUp r claimant)
  | accrued (a : Nat) (ha : r.exempt = true → a = 0) : s.RecordChange r (r.accrued a)
  | overdue : s.RecordChange r { r with priority := 3 }

/-- What a change does to these tables: it writes one record, switches it onto a plan, opens or retires one, writes or clears
a plan, or resets them. -/
inductive State.TableChange (s : State) : State → Prop
  | kept (t : State) (ht : t.tables = s.tables) : s.TableChange t
  | rewritten (t : State) (slot : Nat) (r r' : Record) (list : List Deadline) (hlook : s.engine.records.look slot = some r)
      (hchange : s.RecordChange r r') (ht : t.tables = (s.rewritten slot r' list s.plans).tables) : s.TableChange t
  | switched (t : State) (slot : Nat) (r : Record) (k : Nat) (p : Plan) (list : List Deadline)
      (hlook : s.engine.records.look slot = some r) (hplan : s.plans.look k = some p)
      (ht : t.tables =
        (s.rewritten slot ({ r with priority := 3 }.switched k p) list (plansSwitched s.plans r.route k)).tables) :
      s.TableChange t
  | opened (t : State) (n bin zone prio slot : Nat) (cls : ThermalClass) (plan : Option Nat) (wave : Byte)
      (m : Option (Nat × Rule)) (rest : List Nat) (hbin : 1 ≤ bin ∧ bin < 2 ^ 32) (hprio : prio ≤ 3)
      (hplan : ∀ k, plan = some k → (s.plans.look k).isSome = true) (hnew : s.engine.binIndex.look bin = none)
      (hfree : s.engine.freeSlots = slot :: rest) (hm : ∀ p, m = some p → p ∈ s.rules)
      (ht : t.tables = (s.added slot (newRecord s n bin cls zone plan wave prio m)).tables) : s.TableChange t
  | retired (t : State) (h : Handle) (r : Record) (hrec : s.recordOf h = some r) (ht : t.tables = (s.removed h r).tables) :
      s.TableChange t
  | planWritten (n : Nat) (legs : List Leg) (hrefs : s.planRefs n = 0) :
      s.TableChange (s.modPlans fun t => t.put n ⟨legs, 0⟩)
  | planCleared (n : Nat) (hrefs : s.planRefs n = 0) : s.TableChange (s.modPlans fun t => t.del n)
  | cleared (t : State) (ht : t.tables = State.reset.tables) : s.TableChange t

/-- A named record is the one in its slot. -/
theorem State.look_of_recordOf {s : State} {h : Handle} {r : Record} (hr : s.recordOf h = some r) :
    s.engine.records.look h.slot = some r ∧ s.generation h.slot = h.gen := by
  unfold State.recordOf at hr
  split at hr
  · next hg => exact ⟨hr, hg⟩
  · cases hr

/-- Another timing keeps state, place and override. -/
theorem Record.timed_eq (r : Record) (timing : Timing) :
    ∃ c : Custody, r.timed timing = { r with custody := c } ∧ c.state = r.custody.state ∧ c.spot = r.custody.spot ∧
      c.receiverOverride = r.custody.receiverOverride := by
  simp only [Record.timed, Record.retimed]
  cases hc : r.custody with
  | carried | staged => exact ⟨r.custody, rfl, by rw [hc], by rw [hc], by rw [hc]⟩
  | booked | claimed => exact ⟨_, rfl, rfl, rfl, rfl⟩

theorem State.RecordChange.timed (s : State) (r : Record) (timing : Timing) : s.RecordChange r (r.timed timing) := by
  obtain ⟨c, heq, hstate, hspot, hover⟩ := r.timed_eq timing
  rw [heq]
  exact .custody c (by rw [hstate]; exact id) (by rw [hspot]; exact fun _ => id) (by rw [hover]; exact fun _ => id)

theorem State.alignHold_tables (s : State) (slot : Nat) (up : Bool) : s.TableChange (s.alignHold slot up) := by
  rcases s.alignHold_cases slot up with ⟨h, -⟩ | ⟨-, r, _, hlook, -, h⟩ | ⟨-, r, _, hlook, -, h⟩
  · rw [h]; exact .kept s rfl
  · rw [h]; exact .rewritten _ slot r _ _ hlook (.timed s r _) rfl
  · rw [h]; exact .rewritten _ slot r _ _ hlook (.timed s r _) rfl

/-- Every change but a link's is one change of the tables; a link event brings holds into line one after the other. -/
theorem State.Change.tables {s t : State} (h : s.Change t) :
    s.TableChange t ∨ ∃ (u : State) (l : Link) (up : Bool), u.tables = s.tables ∧ u.engine.cells = s.engine.cells ∧
      s.RangesKept u ∧ t = u.alignLink l up := by
  cases h with
  | none => exact .inl (.kept s rfl)
  | declared n bin zone prio slot cls plan wave m notice rest hrobot hbin hprio hplan hnew hfree hm =>
    have hadded := (s.quiet_takeRule m hm notice false).side.added slot (newRecord s n bin cls zone plan wave prio m)
    exact .inl (.opened _ n bin zone prio slot cls plan wave m rest hbin hprio hplan hnew hfree hm
      (hadded.trans (State.side_openRecord _ _ _ _)).tables)
  | booked n k l h r c lapsed receiver m notice hlast hrec hcustody hhops hcell hroom hm =>
    have hrule := (s.quiet_takeRule m hm notice false).side
    have hbook := State.side_bookRecord (s.takeRule m notice false) h r n l k receiver m
    rw [hrule.startedTiming, hrule.startedList, hrule.plans] at hbook
    exact .inl (.rewritten _ h.slot r _ _ (State.look_of_recordOf hrec).1 (.booked n k receiver m _ hm hhops)
      ((hrule.rewritten _ _ _ _).trans hbook).tables)
  | bookingEnded h r carrier k receiver ov timing lapsed hrec =>
    exact .inl (.rewritten _ h.slot r _ _ (State.look_of_recordOf hrec).1
      (.custody (.carried carrier lapsed) (fun hc => absurd rfl hc) nofun nofun) (s.side_endBooking _ _ _ _ _).tables)
  | staged h r carrier k receiver ov timing hrec hcustody =>
    exact .inl (.rewritten _ h.slot r _ _ (State.look_of_recordOf hrec).1 (.staged carrier k receiver ov timing hcustody)
      (s.side_stageRecord _ _ _ _ _ _).tables)
  | granted n l h r spot lapsed _ _ hrec hcustody =>
    exact .inl (.rewritten _ h.slot r _ _ (State.look_of_recordOf hrec).1
      (.custody (.claimed spot n _) (fun _ => by rw [hcustody]; exact nofun) (fun _ hs => by rw [hcustody]; exact hs) nofun)
      (s.side_grant _ _ _ _ _).tables)
  | claimEnded h r spot claimant timing hrec hcustody =>
    exact .inl (.rewritten _ h.slot r _ _ (State.look_of_recordOf hrec).1
      (.custody (.staged spot Option.none) (fun _ => by rw [hcustody]; exact nofun) (fun _ hs => by rw [hcustody]; exact hs) nofun)
      (s.side_endClaim _ _ _ _ _).tables)
  | claimLapsed h r spot claimant timing hrec hcustody =>
    exact .inl (.rewritten _ h.slot r _ _ (State.look_of_recordOf hrec).1
      (.custody (.staged spot (some claimant)) (fun _ => by rw [hcustody]; exact nofun) (fun _ hs => by rw [hcustody]; exact hs) nofun)
      (s.side_claimLapse _ _ _ _).tables)
  | takenUp h r spot claimant timing hrec hcustody =>
    exact .inl (.rewritten _ h.slot r _ _ (State.look_of_recordOf hrec).1 (.takenUp spot claimant timing hcustody)
      (s.side_takeupRecord _ _ _ _).tables)
  | retired h r hrec => exact .inl (.retired _ h r hrec (s.side_retire h r).tables)
  | visited slot =>
    cases hr : s.engine.records.look slot with
    | none => simp only [State.visit, hr]; exact .inl (.kept s rfl)
    | some r =>
      refine .inl (.rewritten _ slot r _ _ hr (.accrued _ fun he => ?_) (s.side_visit hr).tables)
      simp only [State.accrualOf, accrual, he, true_or, if_true]
  | overdue h =>
    cases hr : s.recordOf h with
    | none => simp only [State.overdueTaken, hr]; exact .inl (.kept s rfl)
    | some r =>
      have hlook := (State.look_of_recordOf hr).1
      rcases State.side_overdueTaken hr with hside | ⟨k, p, hp, hside⟩
      · exact .inl (.rewritten _ h.slot r _ _ hlook .overdue hside.tables)
      · exact .inl (.switched _ h.slot r k p _ hlook hp hside.tables)
  | linkTurned l up f hup hwindows =>
    refine .inr ⟨s.modPorts fun p => p.modLink l f, l, up, rfl, rfl, ⟨id, id, id, id, id, id, fun h m => ?_⟩, rfl⟩
    simp only [State.modPorts, PortUnit.robotLink_modLink]
    split
    · rw [(hwindows _).1, (hwindows _).2]; exact h m
    · exact h m
  | cellDrained n c admissions hc =>
    exact .inl (.kept _ ((s.side_putCell (c' := { c with state := .draining, admissions := admissions }) hc rfl).trans
      (State.side_closeCheck _ _)).tables)
  | cellWritten | cellDeleted | cellReopened | robotEnrolled | robotWritten | robotWithdrawn | millisecond =>
    exact .inl (.kept _ rfl)
  | planWritten n legs _ _ hrefs => exact .inl (.planWritten n legs hrefs)
  | planCleared n hrefs => exact .inl (.planCleared n hrefs)
  | expiryRaised =>
    refine .inl (.kept _ ?_)
    unfold State.raiseExpiry
    split <;> rfl
  | deviceReset => exact .inl (.cleared _ s.quiet_deviceReset.tables)

/-- Bringing a link's holds into line one after the other keeps what each of them keeps. -/
theorem State.alignLink_induction {P : State → Prop} (h : ∀ (s : State) slot up, P s → P (s.alignHold slot up)) {s : State}
    (hs : P s) (l : Link) (up : Bool) : P (s.alignLink l up) := by
  unfold State.alignLink
  generalize s.engine.records = original
  induction original generalizing s with
  | nil => exact hs
  | cons p original ih =>
    refine ih (s := if s.partyOn p.2 l then s.alignHold p.1 up else s) ?_
    split
    · exact h s p.1 up hs
    · exact hs

theorem State.RangesKept.alignHold (s : State) (slot : Nat) (up : Bool) : s.RangesKept (s.alignHold slot up) := by
  obtain ⟨records, list, h⟩ := s.alignHold_eq slot up
  rw [h]
  exact .of_eq rfl rfl rfl rfl rfl

/-- A property of these tables that one change of them keeps is kept by every step. -/
theorem step_keeps_tables {P : State → Prop} (htable : ∀ s t : State, s.TableChange t → s.RangesKept t → P s → P t)
    {s t : State} (hstep : step s = .next t) (hs : P s) : P t := by
  have hquiet : ∀ s t : State, s.Quiet t → P s → P t := fun s t hq => htable s t (.kept t hq.tables) hq.ranges
  have halign : ∀ (s : State) slot up, P s → P (s.alignHold slot up) := fun s slot up =>
    htable s _ (s.alignHold_tables slot up) (.alignHold s slot up)
  refine step_establishes (P := P) (Q := P) hquiet (fun u n l e _ hu => ?_) (fun u v hc hu => ?_) hquiet hstep hs
  · have hput : P (u.putRobot n { e with lastLink := some l }) := htable u _ (.kept _ rfl) (.of_eq rfl rfl rfl rfl rfl) hu
    unfold State.linkUpdate
    split
    · exact halign _ _ _ hput
    · exact hput
  · rcases hc.tables with ht | ⟨w, l, up, htables, -, hranges, rfl⟩
    · exact htable u v ht hc.ranges hu
    · exact State.alignLink_induction halign (htable u w (.kept w htables) hranges hu) l up

end Sys2Proof.Machine
end

section
/-! SUPPORT. The law of the slots, and what a record keeps for life. -/

namespace Sys2Proof.Machine

/-! ## The law of the slots -/

theorem Table.mem_iff_look {α : Type} {t : Table α} (h : t.wf = true) (p : Nat × α) : p ∈ t ↔ t.look p.1 = some p.2 :=
  (Table.look_eq_some_iff t h p.1 p.2).symm

/-- No change of a record touches its bin ID. -/
theorem State.RecordChange.bin {s : State} {r r' : Record} (h : s.RecordChange r r') : r'.bin = r.bin := by
  cases h <;> rfl

theorem State.slotLaw_congr {s t : State} (h : t.tables = s.tables) (hs : s.slotLaw) : t.slotLaw := by
  have hr : t.engine.records = s.engine.records := congrArg TableView.records h
  have hg : t.engine.gens = s.engine.gens := congrArg TableView.gens h
  have hf : t.engine.freeSlots = s.engine.freeSlots := congrArg TableView.freeSlots h
  have hb : t.engine.binIndex = s.engine.binIndex := congrArg TableView.binIndex h
  simpa only [State.slotLaw, hr, hg, hf, hb] using hs

/-- A live record may be written anew under its bin ID. -/
theorem State.slotLaw_rewritten {s : State} (hs : s.slotLaw) {slot : Nat} {r r' : Record}
    (hlook : s.engine.records.look slot = some r) (hbin : r'.bin = r.bin) (list : List Deadline) (plans : Table Plan) :
    (s.rewritten slot r' list plans).slotLaw := by
  obtain ⟨hrecords, hgens, hbins, hslots, hgen, hnodup, hfree, hindex, hrange⟩ := hs
  refine ⟨Table.wf_put _ _ _ hrecords, hgens, hbins, fun p hp => ?_, hgen, hnodup, fun n => ?_, fun b n => ?_, hrange⟩
  · rcases Table.mem_put hp with rfl | hp
    · exact hslots (slot, r) (Table.mem_of_look hlook)
    · exact hslots p hp
  · rw [show (s.rewritten slot r' list plans).engine.freeSlots = s.engine.freeSlots from rfl, hfree]
    simp only [State.rewritten, Table.look_put]
    split
    · next hn => simp [hn, hlook]
    · rfl
  · rw [show (s.rewritten slot r' list plans).engine.binIndex = s.engine.binIndex from rfl, hindex]
    simp only [State.rewritten, Table.look_put]
    split
    · next hn => simp [hn, hlook, hbin]
    · rfl

/-- A record opens in the head slot under a bin ID that no live record has. -/
theorem State.slotLaw_added {s : State} (hs : s.slotLaw) {slot : Nat} {rest : List Nat} {r : Record}
    (hfree : s.engine.freeSlots = slot :: rest) (hnew : s.engine.binIndex.look r.bin = none)
    (hbin : 1 ≤ r.bin ∧ r.bin < 2 ^ 32) : (s.added slot r).slotLaw := by
  obtain ⟨hrecords, hgens, hbins, hslots, hgen, hnodup, hfrees, hindex, hrange⟩ := hs
  have hhead : slot < Config.slots ∧ s.engine.records.look slot = none := (hfrees slot).1 (by rw [hfree]; simp)
  rw [hfree] at hnodup
  obtain ⟨hnotin, hnodup⟩ := List.nodup_cons.1 hnodup
  have htail : s.engine.freeSlots.tail = rest := by rw [hfree, List.tail_cons]
  refine ⟨Table.wf_put _ _ _ hrecords, hgens, Table.wf_put _ _ _ hbins, fun p hp => ?_, hgen, ?_, fun n => ?_, fun b n => ?_,
    fun b n h => ?_⟩
  · rcases Table.mem_put hp with rfl | hp
    · exact hhead.1
    · exact hslots p hp
  · simpa only [State.added, htail] using hnodup
  · have hn := hfrees n
    rw [hfree, List.mem_cons] at hn
    simp only [State.added, htail, Table.look_put]
    by_cases hns : n = slot
    · simp [hns, hnotin]
    · simp only [hns, false_or, if_false] at hn ⊢
      exact hn
  · simp only [State.added, Table.look_put]
    by_cases hb : b = r.bin
    · simp only [hb, if_true, Option.some.injEq]
      constructor
      · rintro rfl
        exact ⟨r, by simp, rfl⟩
      · rintro ⟨x, hx, hxb⟩
        by_contra hns
        rw [if_neg (Ne.symm hns)] at hx
        rw [(hindex r.bin n).2 ⟨x, hx, hxb⟩] at hnew
        cases hnew
    · simp only [if_neg hb, hindex]
      by_cases hns : n = slot
      · simp [hns, hhead.2, Ne.symm hb]
      · simp [hns]
  · simp only [State.added, Table.look_put] at h
    split at h
    · next hb => exact hb ▸ hbin
    · exact hrange b n h

/-- A retired record's slot joins the tail of the free slots, and its bin ID is free. -/
theorem State.slotLaw_removed {s : State} (hs : s.slotLaw) {h : Handle} {r : Record} (hrec : s.recordOf h = some r) :
    (s.removed h r).slotLaw := by
  obtain ⟨hlook, -⟩ := State.look_of_recordOf hrec
  obtain ⟨hrecords, hgens, hbins, hslots, hgen, hnodup, hfrees, hindex, hrange⟩ := hs
  have hlive : h.slot ∉ s.engine.freeSlots := fun hm => by simp [((hfrees h.slot).1 hm).2] at hlook
  refine ⟨Table.wf_del _ _ hrecords, Table.wf_putD _ _ _ _ hgens, Table.wf_del _ _ hbins,
    fun p hp => hslots p (Table.mem_del hp), fun p hp => ?_, ?_, fun n => ?_, fun b n => ?_, fun b n hb => ?_⟩
  · rcases Table.mem_putD hp with rfl | hp
    · exact Nat.mod_lt _ (by decide)
    · exact hgen p hp
  · simpa only [State.removed, List.nodup_append, List.nodup_singleton, List.mem_singleton] using
      ⟨hnodup, trivial, fun a ha b hb => by rw [hb]; rintro rfl; exact hlive ha⟩
  · simp only [State.removed, List.mem_append, List.mem_singleton, hfrees, Table.look_del]
    by_cases hn : n = h.slot
    · simp [hn, hslots _ (Table.mem_of_look hlook)]
    · simp [hn]
  · simp only [State.removed, Table.look_del]
    have hother : ∀ {n b}, (∃ x, s.engine.records.look n = some x ∧ x.bin = b) → (n = h.slot ↔ b = r.bin) := by
      rintro n b ⟨x, hx, rfl⟩
      constructor
      · rintro rfl
        rw [hlook] at hx
        cases hx
        rfl
      · intro hb
        have h1 := (hindex x.bin n).2 ⟨x, hx, rfl⟩
        rw [hb, (hindex r.bin h.slot).2 ⟨r, hlook, rfl⟩] at h1
        exact (Option.some.inj h1).symm
    by_cases hb : b = r.bin
    · simp only [hb, if_true, reduceCtorEq, false_iff]
      rintro ⟨x, hx, hxb⟩
      split at hx
      · cases hx
      · next hn => exact hn ((hother ⟨x, hx, hxb⟩).2 rfl)
    · simp only [if_neg hb, hindex]
      split
      · next hn =>
        simp only [reduceCtorEq, false_and, exists_false, iff_false]
        exact fun hx => hb ((hother hx).1 hn)
      · rfl
  · simp only [State.removed, Table.look_del] at hb
    split at hb
    · cases hb
    · exact hrange b n hb

theorem State.TableChange.slotLaw {s t : State} (h : s.TableChange t) (hs : s.slotLaw) : t.slotLaw := by
  cases h with
  | kept _ ht => exact State.slotLaw_congr ht hs
  | rewritten _ slot r r' list hlook hchange ht =>
    exact State.slotLaw_congr ht (State.slotLaw_rewritten hs hlook hchange.bin _ _)
  | switched _ slot r k p list hlook _ ht =>
    exact State.slotLaw_congr ht
      (State.slotLaw_rewritten (r' := { r with priority := 3 }.switched k p) hs hlook rfl _ _)
  | opened _ n bin zone prio slot cls plan wave m rest hbin _ _ hnew hfree _ ht =>
    exact State.slotLaw_congr ht (State.slotLaw_added hs hfree hnew hbin)
  | retired _ h r hrec ht => exact State.slotLaw_congr ht (State.slotLaw_removed hs hrec)
  | planWritten | planCleared => exact hs
  | cleared _ ht => exact State.slotLaw_congr ht slotLaw_reset

/-- Settles O57. Each change of the tables keeps the law of the slots. -/
theorem stepKeepsSlotLaw : Obligations.StepKeepsSlotLaw := fun _ _ hs hstep =>
  step_keeps_tables (P := State.slotLaw) (fun _ _ ht _ => ht.slotLaw) hstep hs

end Sys2Proof.Machine
end

section
/-! SUPPORT. What a record keeps for life, and the law of the records. -/

namespace Sys2Proof.Machine

/-! ## What becomes of a record -/

/-- A live record after a change of the tables, if it lives on: as it was, written, or switched onto a plan. -/
def State.RecordStep (s : State) (r r' : Record) : Prop :=
  r' = r ∨ s.RecordChange r r' ∨ ∃ k p, s.plans.look k = some p ∧ r' = { r with priority := 3 }.switched k p

theorem State.recordOf_rewritten {s : State} {slot : Nat} {r r' : Record} {list : List Deadline} {plans : Table Plan}
    (hlook : s.engine.records.look slot = some r) {x : Handle} {rx : Record} (hx : s.recordOf x = some rx) :
    (s.rewritten slot r' list plans).recordOf x = some (if x.slot = slot then r' else rx) ∧ (x.slot = slot → rx = r) := by
  obtain ⟨hxlook, hgen⟩ := State.look_of_recordOf hx
  have hgen' : (s.rewritten slot r' list plans).generation x.slot = x.gen := hgen
  simp only [State.recordOf, hgen', if_true]
  simp only [State.rewritten, Table.look_put]
  split
  · next hs =>
    rw [hs, hlook] at hxlook
    exact ⟨rfl, fun _ => (Option.some.inj hxlook).symm⟩
  · next hs => exact ⟨hxlook, fun h => absurd h hs⟩

/-- A live record is gone after a change of the tables, or is written by it. -/
theorem State.TableChange.recordOf {s t : State} (h : s.TableChange t) (hs : s.slotLaw) {x : Handle} {r : Record}
    (hx : s.recordOf x = some r) : t.recordOf x = none ∨ ∃ r', t.recordOf x = some r' ∧ s.RecordStep r r' := by
  have hstep : ∀ {slot : Nat} {r₀ r' : Record} {list : List Deadline} {plans : Table Plan},
      s.engine.records.look slot = some r₀ → s.RecordStep r₀ r' → t.tables = (s.rewritten slot r' list plans).tables →
      ∃ r'', t.recordOf x = some r'' ∧ s.RecordStep r r'' := by
    intro slot r₀ r' list plans hlook hchange ht
    obtain ⟨hrec, hsame⟩ := State.recordOf_rewritten (r' := r') (list := list) (plans := plans) hlook hx
    rw [State.recordOf_congr ht, hrec]
    split
    · next hslot => exact ⟨r', rfl, hsame hslot ▸ hchange⟩
    · exact ⟨r, rfl, .inl rfl⟩
  cases h with
  | kept _ ht => exact .inr ⟨r, (State.recordOf_congr ht x).trans hx, .inl rfl⟩
  | rewritten _ slot r₀ r' list hlook hchange ht => exact .inr (hstep hlook (.inr (.inl hchange)) ht)
  | switched _ slot r₀ k p list hlook hplan ht => exact .inr (hstep hlook (.inr (.inr ⟨k, p, hplan, rfl⟩)) ht)
  | opened _ n bin zone prio slot cls plan wave m rest _ _ _ _ hfree _ ht =>
    obtain ⟨-, -, -, -, -, -, hfrees, -⟩ := hs
    have hslot : s.engine.records.look slot = none := ((hfrees slot).1 (by rw [hfree]; simp)).2
    obtain ⟨hxlook, hgen⟩ := State.look_of_recordOf hx
    have hne : x.slot ≠ slot := fun h => by rw [h, hslot] at hxlook; cases hxlook
    refine .inr ⟨r, ?_, .inl rfl⟩
    rw [State.recordOf_congr ht]
    simp only [State.recordOf, show (s.added slot _).generation x.slot = x.gen from hgen, if_true]
    exact (Table.look_put_ne _ _ hne).trans hxlook
  | retired _ h r₀ _ ht =>
    obtain ⟨hxlook, hgen⟩ := State.look_of_recordOf hx
    rw [State.recordOf_congr ht]
    by_cases hslot : x.slot = h.slot
    · refine .inl ?_
      unfold State.recordOf
      split
      · simp only [State.removed, Table.look_del, if_pos hslot]
      · rfl
    · refine .inr ⟨r, ?_, .inl rfl⟩
      have hgen' : (s.removed h r₀).generation x.slot = x.gen := by
        rw [← hgen]
        simp only [State.generation, State.removed, Table.lookD_putD, if_neg hslot]
      simp only [State.recordOf, hgen', if_true]
      simp only [State.removed, Table.look_del, if_neg hslot, hxlook]
  | planWritten | planCleared => exact .inr ⟨r, hx, .inl rfl⟩
  | cleared _ ht => exact .inl ((State.recordOf_congr ht x).trans (recordOf_reset x))

/-- A record after a change of the tables was there before, or has just been opened. -/
theorem State.TableChange.mem_records {s t : State} (h : s.TableChange t) {q : Nat × Record} (hq : q ∈ t.engine.records) :
    (∃ r, (q.1, r) ∈ s.engine.records ∧ s.RecordStep r q.2) ∨
      ∃ n bin zone prio cls plan wave m, prio ≤ 3 ∧ (∀ k, plan = some k → (s.plans.look k).isSome = true) ∧
        (∀ p, m = some p → p ∈ s.rules) ∧ q.2 = newRecord s n bin cls zone plan wave prio m := by
  have hold : q ∈ s.engine.records → ∃ r, (q.1, r) ∈ s.engine.records ∧ s.RecordStep r q.2 := fun h => ⟨q.2, h, .inl rfl⟩
  have hput : ∀ {slot : Nat} {r r' : Record}, s.engine.records.look slot = some r → s.RecordStep r r' →
      q ∈ s.engine.records.put slot r' → ∃ r, (q.1, r) ∈ s.engine.records ∧ s.RecordStep r q.2 := by
    intro slot r r' hlook hstep hq
    rcases Table.mem_put hq with rfl | hq
    · exact ⟨r, Table.mem_of_look hlook, hstep⟩
    · exact hold hq
  cases h with
  | kept _ ht => rw [show t.engine.records = _ from congrArg TableView.records ht] at hq; exact .inl (hold hq)
  | rewritten _ slot r r' list hlook hchange ht =>
    rw [show t.engine.records = _ from congrArg TableView.records ht] at hq
    exact .inl (hput hlook (.inr (.inl hchange)) hq)
  | switched _ slot r k p list hlook hplan ht =>
    rw [show t.engine.records = _ from congrArg TableView.records ht] at hq
    exact .inl (hput hlook (.inr (.inr ⟨k, p, hplan, rfl⟩)) hq)
  | opened _ n bin zone prio slot cls plan wave m rest _ hprio hplan _ _ hm ht =>
    rw [show t.engine.records = _ from congrArg TableView.records ht] at hq
    rcases Table.mem_put hq with rfl | hq
    · exact .inr ⟨n, bin, zone, prio, cls, plan, wave, m, hprio, hplan, hm, rfl⟩
    · exact .inl (hold hq)
  | retired _ h r _ ht =>
    rw [show t.engine.records = _ from congrArg TableView.records ht] at hq
    exact .inl (hold (Table.mem_del hq))
  | planWritten | planCleared => exact .inl (hold hq)
  | cleared _ ht => rw [show t.engine.records = _ from congrArg TableView.records ht] at hq; cases hq

/-! ## The law of the records -/

/-- A visit keeps the law of exposure and flags (R169 to R171). -/
theorem Record.exposureLaw_accrued {r : Record} (hr : r.exposureLaw) {a : Nat} (ha : r.exempt = true → a = 0) :
    (r.accrued a).exposureLaw := by
  obtain ⟨hprio, hexp, hlow, hhigh, hoverdue, hwarned, hboth, hexempt⟩ := hr
  refine ⟨hprio, Nat.min_le_left _ _, hlow, hhigh, ?_, ?_, ?_, fun he => ?_⟩
  · simp only [Record.accrued, Bool.or_eq_true, decide_eq_true_eq, hoverdue]
    omega
  · simp only [Record.accrued, Bool.or_eq_true, decide_eq_true_eq]
    rintro (hw | hx)
    · have := hwarned hw
      omega
    · exact hx
  · simp only [Record.accrued, Bool.or_eq_true, decide_eq_true_eq]
    rintro (ho | hx)
    · exact .inl (hboth ho)
    · exact .inr (by omega)
  · simp only [Record.accrued, ha he, hexempt he]
    decide

theorem floor_le {s : State} (hfloors : ∀ p ∈ s.rules, p.2.floor ≤ 3) {m : Option (Nat × Rule)}
    (hm : ∀ p, m = some p → p ∈ s.rules) : (m.map (·.2.floor)).getD 0 ≤ 3 := by
  cases m with
  | none => exact Nat.zero_le 3
  | some p => exact hfloors p (hm p rfl)

/-- A rescue switch keeps a record's state (R128 to R131). -/
theorem Custody.state_rescued (c : Custody) (mask : Byte) : (c.rescued mask).state = c.state := by
  cases c <;> rfl

theorem State.RecordChange.exposureLaw {s : State} {r r' : Record} (h : s.RecordChange r r') (hs : s.recordLaw)
    (hr : r.exposureLaw) : r'.exposureLaw := by
  obtain ⟨-, -, -, hfloors⟩ := hs
  cases h with
  | custody | staged | takenUp => exact hr
  | booked n k receiver m timing hm => exact ⟨Nat.max_le.2 ⟨hr.1, floor_le hfloors hm⟩, hr.2⟩
  | accrued a ha => exact Record.exposureLaw_accrued hr ha
  | overdue => exact ⟨Nat.le_refl 3, hr.2⟩

theorem State.RecordChange.hopLaw {s : State} {r r' : Record} (h : s.RecordChange r r') (hr : r.hopLaw) : r'.hopLaw := by
  obtain ⟨hle, hlimit, hlt⟩ := hr
  cases h with
  | custody c hcarried => exact ⟨hle, hlimit, fun hc => hlt (hcarried hc)⟩
  | booked n k receiver m timing hm hhops => exact ⟨hle, hlimit, fun _ => hhops⟩
  | staged carrier k receiver ov timing hcustody => exact ⟨hle, hlimit, fun _ => hlt (by rw [hcustody]; exact nofun)⟩
  | takenUp spot claimant timing hcustody =>
    exact ⟨hlt (by rw [hcustody]; exact nofun), hlimit, fun hc => absurd rfl hc⟩
  | accrued | overdue => exact ⟨hle, hlimit, hlt⟩

/-- What a change makes of a live record keeps both laws. -/
theorem State.RecordStep.laws {s : State} {r r' : Record} (h : s.RecordStep r r') (hs : s.recordLaw)
    (hr : r.exposureLaw ∧ r.hopLaw) : r'.exposureLaw ∧ r'.hopLaw := by
  rcases h with rfl | h | ⟨k, p, hp, rfl⟩
  · exact hr
  · exact ⟨h.exposureLaw hs hr.1, h.hopLaw hr.2⟩
  · obtain ⟨-, hlegs, -⟩ := hs
    obtain ⟨hfirst, -⟩ := hlegs _ (Table.mem_of_look hp)
    obtain ⟨hexposure, hle, hlimit, hlt⟩ := hr
    refine ⟨⟨Nat.le_refl 3, hexposure.2⟩, ?_, Nat.min_le_left _ _, fun hc => ?_⟩
    · simp only [Record.switched]
      omega
    · simp only [Record.switched, Custody.state_rescued] at hc ⊢
      have := hlt hc
      simp only at hfirst
      omega

/-- The record that a DECLARE opens keeps both laws (R9, R161). -/
theorem newRecord_laws {s : State} (hs : s.recordLaw) (n bin zone : Nat) {prio : Nat} (cls : ThermalClass)
    {plan : Option Nat} (wave : Byte) {m : Option (Nat × Rule)} (hprio : prio ≤ 3)
    (hplan : ∀ k, plan = some k → (s.plans.look k).isSome = true) (hm : ∀ p, m = some p → p ∈ s.rules) :
    (newRecord s n bin cls zone plan wave prio m).exposureLaw ∧ (newRecord s n bin cls zone plan wave prio m).hopLaw := by
  obtain ⟨-, hlegs, hclasses, hfloors⟩ := hs
  have hbudget : 1 ≤ (newRecord s n bin cls zone plan wave prio m).budget ∧
      (newRecord s n bin cls zone plan wave prio m).budget ≤ 65535 := by
    simp only [newRecord, scaledBudget]
    omega
  have hlimit : (newRecord s n bin cls zone plan wave prio m).hopLimit ≤ 15 := by
    cases plan with
    | none => exact (hclasses cls).2
    | some k =>
      obtain ⟨p, hp⟩ := Option.isSome_iff_exists.1 (hplan k rfl)
      have hcount := (hlegs _ (Table.mem_of_look hp)).2
      simp only [newRecord, hp, Option.map_some, Option.getD_some] at hcount ⊢
      omega
  refine ⟨⟨Nat.max_le.2 ⟨hprio, floor_le hfloors hm⟩, Nat.zero_le _, hbudget.1, hbudget.2, ?_, nofun, nofun, fun _ => rfl⟩,
    Nat.zero_le _, hlimit, fun hc => absurd rfl hc⟩
  have hfresh : (newRecord s n bin cls zone plan wave prio m).exposure = 0 := rfl
  rw [hfresh]
  exact ⟨nofun, fun h => by omega⟩

theorem State.TableChange.recordLaw {s t : State} (h : s.TableChange t) (hranges : s.RangesKept t) (hs : s.recordLaw) :
    t.recordLaw := by
  have ⟨hrecords, hlegs, hclasses, hfloors⟩ := hs
  refine ⟨fun q hq => ?_, hranges.legCounts hlegs, hranges.hopLimits hclasses, hranges.floors hfloors⟩
  rcases h.mem_records hq with ⟨r, hr, hstep⟩ | ⟨n, bin, zone, prio, cls, plan, wave, m, hprio, hplan, hm, heq⟩
  · exact hstep.laws hs (hrecords _ hr)
  · rw [heq]
    exact newRecord_laws hs n bin zone cls wave hprio hplan hm

/-! ## What a record keeps for life -/

/-- What DECLARE fixed stays, and counts and flags do not fall. -/
def Record.Grows (r r' : Record) : Prop :=
  r'.bin = r.bin ∧ r'.cls = r.cls ∧ r'.wave = r.wave ∧ r'.originZone = r.originZone ∧ r'.openedAt = r.openedAt ∧
    r'.budget = r.budget ∧ r'.exempt = r.exempt ∧ r.priority ≤ r'.priority ∧ r.hops ≤ r'.hops ∧
    r.exposure ≤ r'.exposure ∧ (r.warned = true → r'.warned = true) ∧ (r.overdue = true → r'.overdue = true) ∧
    (r.rescued = true → r'.rescued = true)

theorem Record.Grows.refl (r : Record) : r.Grows r :=
  ⟨rfl, rfl, rfl, rfl, rfl, rfl, rfl, Nat.le_refl _, Nat.le_refl _, Nat.le_refl _, id, id, id⟩

theorem Record.Grows.trans {r r' r'' : Record} (h : r.Grows r') (k : r'.Grows r'') : r.Grows r'' := by
  unfold Record.Grows at *
  grind

/-- No change of a record takes away what it has. -/
theorem State.RecordStep.grows {s : State} {r r' : Record} (h : s.RecordStep r r') (hr : r.exposureLaw) : r.Grows r' := by
  obtain ⟨hprio, hexp, -⟩ := hr
  rcases h with rfl | h | ⟨k, p, -, rfl⟩
  · exact .refl _
  · cases h with
    | custody | staged => exact .refl r
    | booked n k receiver m timing =>
      exact ⟨rfl, rfl, rfl, rfl, rfl, rfl, rfl, Nat.le_max_left _ _, Nat.le_refl _, Nat.le_refl _, id, id, id⟩
    | takenUp =>
      exact ⟨rfl, rfl, rfl, rfl, rfl, rfl, rfl, Nat.le_refl _, Nat.le_succ _, Nat.le_refl _, id, id, id⟩
    | accrued a =>
      refine ⟨rfl, rfl, rfl, rfl, rfl, rfl, rfl, Nat.le_refl _, Nat.le_refl _, ?_, fun h => ?_, fun h => ?_, id⟩
      · simp only [Record.accrued]
        omega
      · simp only [Record.accrued, h, Bool.true_or]
      · simp only [Record.accrued, h, Bool.true_or]
    | overdue => exact ⟨rfl, rfl, rfl, rfl, rfl, rfl, rfl, hprio, Nat.le_refl _, Nat.le_refl _, id, id, id⟩
  · exact ⟨rfl, rfl, rfl, rfl, rfl, rfl, rfl, hprio, Nat.le_refl _, Nat.le_refl _, id, id, fun _ => rfl⟩

/-- The laws hold and the record lives on, no less than it was. -/
def State.Carries (x : Handle) (r : Record) (s : State) : Prop :=
  s.slotLaw ∧ s.recordLaw ∧ ∃ r', s.recordOf x = some r' ∧ r.Grows r'

/-- The exposure law of a named record. -/
theorem State.exposureLaw_of_recordOf {s : State} (hs : s.recordLaw) {x : Handle} {r : Record} (hx : s.recordOf x = some r) :
    r.exposureLaw := (hs.1 _ (Table.mem_of_look (State.look_of_recordOf hx).1)).1

theorem State.Carries.of_tables {x : Handle} {r : Record} {s t : State} (h : s.Carries x r) (ht : t.tables = s.tables)
    (hranges : s.RangesKept t) : t.Carries x r := by
  obtain ⟨hslot, hrecord, r', hx, hgrows⟩ := h
  have hkept := State.TableChange.kept t ht
  exact ⟨hkept.slotLaw hslot, hkept.recordLaw hranges hrecord, r', (State.recordOf_congr ht x).trans hx, hgrows⟩

/-- Bringing a hold into line retires nothing. -/
theorem State.recordOf_alignHold_ne_none (s : State) (slot : Nat) (up : Bool) {x : Handle} {r : Record}
    (hx : s.recordOf x = some r) : (s.alignHold slot up).recordOf x ≠ none := by
  rcases s.alignHold_cases slot up with ⟨h, -⟩ | ⟨-, r, _, hlook, -, h⟩ | ⟨-, r, _, hlook, -, h⟩
  · rw [h, hx]; exact nofun
  · rw [h, (State.recordOf_rewritten hlook hx).1]; exact nofun
  · rw [h, (State.recordOf_rewritten hlook hx).1]; exact nofun

theorem State.Carries.alignHold {x : Handle} {r : Record} {s : State} (h : s.Carries x r) (slot : Nat) (up : Bool) :
    (s.alignHold slot up).Carries x r := by
  obtain ⟨hslot, hrecord, r', hx, hgrows⟩ := h
  have htable := s.alignHold_tables slot up
  refine ⟨htable.slotLaw hslot, htable.recordLaw (.alignHold s slot up) hrecord, ?_⟩
  rcases htable.recordOf hslot hx with hnone | ⟨r'', hx', hstep⟩
  · exact absurd hnone (s.recordOf_alignHold_ne_none slot up hx)
  · exact ⟨r'', hx', hgrows.trans (hstep.grows (State.exposureLaw_of_recordOf hrecord hx))⟩

/-- Settles O60. Up to the command's own change the record lives on; that change writes it or retires it, and what follows is
quiet. -/
theorem recordKeepsIdentity : Obligations.RecordKeepsIdentity := by
  intro s t x r r' hslot hrecord hstep hx hx'
  refine step_establishes (P := State.Carries x r) (Q := fun t => ∀ r', t.recordOf x = some r' → r.Grows r')
    (fun u v hq hu => hu.of_tables hq.tables hq.ranges) (fun u n l e _ hu => ?_) (fun u v hc hu => ?_)
    (fun u v hq hu r' hr' => hu r' ((hq.recordOf x).symm.trans hr')) hstep ⟨hslot, hrecord, r, hx, .refl r⟩ r' hx'
  · have hput : (u.putRobot n { e with lastLink := some l }).Carries x r :=
      hu.of_tables rfl (.of_eq rfl rfl rfl rfl rfl)
    unfold State.linkUpdate
    split
    · exact hput.alignHold _ _
    · exact hput
  · intro r' hr'
    rcases hc.tables with ht | ⟨w, l, up, htables, -, hranges, rfl⟩
    · obtain ⟨hslot, hrecord, r₁, hx₁, hgrows⟩ := hu
      rcases ht.recordOf hslot hx₁ with hnone | ⟨r₂, hx₂, hstep⟩
      · rw [hnone] at hr'; cases hr'
      · obtain rfl := Option.some.inj (hx₂.symm.trans hr')
        exact hgrows.trans (hstep.grows (State.exposureLaw_of_recordOf hrecord hx₁))
    · obtain ⟨-, -, r₁, hx₁, hgrows⟩ := State.alignLink_induction (P := State.Carries x r)
        (fun s slot up h => h.alignHold slot up) (hu.of_tables htables hranges) l up
      obtain rfl := Option.some.inj (hx₁.symm.trans hr')
      exact hgrows

end Sys2Proof.Machine
end

section
/-! SUPPORT. The law of the plans' reference counts and the law of the masks. -/

namespace Sys2Proof.Machine

/-! ## Counting records -/

section
variable {α : Type}

/-- Writing an entry counts the new entry in place of the old one. -/
theorem Table.countP_put (test : α → Bool) {t : Table α} (h : t.wf = true) (n : Nat) (v : α) :
    List.countP (fun p => test p.2) (t.put n v) + (if (t.look n).any test then 1 else 0) =
      List.countP (fun p => test p.2) t + if test v then 1 else 0 := by
  rw [Table.wf_iff] at h
  induction t with
  | nil => simp [Table.put, Table.look, List.countP_cons]
  | cons p t ih =>
    obtain ⟨k, w⟩ := p
    rw [List.map_cons, List.pairwise_cons] at h
    obtain ⟨hlt, h⟩ := h
    by_cases hk : n < k
    · have hnone : Table.look ((k, w) :: t) n = none := by
        rw [Option.eq_none_iff_forall_ne_some]
        intro x hx
        rcases List.mem_cons.1 (Table.mem_of_look hx) with hx | hx
        · cases hx; exact Nat.lt_irrefl _ hk
        · exact Nat.lt_asymm hk (hlt n (List.mem_map_of_mem (f := Prod.fst) hx))
      simp [Table.put, hk, hnone, List.countP_cons]
    · by_cases hn : n = k
      · subst hn
        simp only [Table.put, Nat.lt_irrefl, if_false, if_true, Table.look, List.countP_cons, Option.any_some]
        omega
      · simp only [Table.put, hk, hn, Ne.symm hn, if_false, Table.look, List.countP_cons]
        have := ih h
        omega

/-- Removing an entry counts it no more. -/
theorem Table.countP_del (test : α → Bool) {t : Table α} (h : t.wf = true) (n : Nat) :
    List.countP (fun p => test p.2) (t.del n) + (if (t.look n).any test then 1 else 0) =
      List.countP (fun p => test p.2) t := by
  rw [Table.wf_iff] at h
  induction t with
  | nil => simp [Table.del]
  | cons p t ih =>
    obtain ⟨k, w⟩ := p
    rw [List.map_cons, List.pairwise_cons] at h
    obtain ⟨hlt, h⟩ := h
    by_cases hn : k = n
    · subst hn
      have hrest : Table.del t k = t := by
        refine List.filter_eq_self.2 fun q hq => ?_
        have := hlt q.1 (List.mem_map_of_mem (f := Prod.fst) hq)
        simp only [ne_eq, decide_eq_true_eq]
        omega
      have hdel : Table.del ((k, w) :: t) k = Table.del t k := by simp [Table.del]
      rw [hdel, hrest]
      simp [Table.look, List.countP_cons]
    · have hdel : Table.del ((k, w) :: t) n = (k, w) :: Table.del t n := by simp [Table.del, hn]
      rw [hdel]
      simp only [Table.look, hn, if_false, List.countP_cons]
      have := ih h
      omega

end

/-! ## The law of the plans -/

/-- Whether a route is on a plan, and how many live records are. -/
def routeOn (k : Nat) (route : Option Route) : Bool := route.map (·.plan) == some k

def State.following (s : State) (k : Nat) : Nat := s.countRecords fun r => routeOn k r.route

theorem State.following_eq_countP (s : State) (k : Nat) :
    s.following k = List.countP (fun p => routeOn k p.2.route) s.engine.records := by
  rw [State.following, State.countRecords, List.countP_eq_length_filter]

theorem routeOn_iff (k : Nat) (route : Route) : routeOn k (some route) = true ↔ k = route.plan := by
  simp only [routeOn, Option.map_some, beq_iff_eq, Option.some.injEq]
  exact eq_comm

theorem look_plansJoined (plans : Table Plan) (route : Option Route) (k : Nat) :
    (plansJoined plans route).look k =
      (plans.look k).map fun p => { p with refs := p.refs + if routeOn k route then 1 else 0 } := by
  cases route with
  | none => cases h : plans.look k <;> simp [plansJoined, routeOn, h]
  | some route =>
    simp only [plansJoined, Table.look_modify, routeOn_iff]
    split
    · next h => rw [h]; rfl
    · cases plans.look k <;> rfl

theorem look_plansLeft (plans : Table Plan) (route : Option Route) (k : Nat) :
    (plansLeft plans route).look k =
      (plans.look k).map fun p => { p with refs := p.refs - if routeOn k route then 1 else 0 } := by
  cases route with
  | none => cases h : plans.look k <;> simp [plansLeft, routeOn, h]
  | some route =>
    simp only [plansLeft, Table.look_modify, routeOn_iff]
    split
    · next h => rw [h]; rfl
    · cases plans.look k <;> rfl

/-- The law of the plans by the view of the tables: counts, and plans named are defined. -/
theorem State.planLaw_iff (s : State) :
    s.planLaw ↔ (∀ k p, s.plans.look k = some p → p.refs = s.following k) ∧
      ∀ q ∈ s.engine.records, ∀ route, q.2.route = some route → (s.plans.look route.plan).isSome = true := Iff.rfl

theorem planLaw_reset : State.reset.planLaw := by
  have hrecords : State.reset.engine.records = [] := rfl
  have hplans : State.reset.plans = [] := rfl
  rw [State.planLaw_iff, hrecords, hplans]
  exact ⟨fun k p hp => absurd hp (by simp [Table.look]), fun q hq => absurd hq (by simp)⟩

theorem State.planLaw_congr {s t : State} (h : t.tables = s.tables) (hs : s.planLaw) : t.planLaw := by
  have hr : t.engine.records = s.engine.records := congrArg TableView.records h
  have hp : t.plans = s.plans := congrArg TableView.plans h
  simpa only [State.planLaw, State.countRecords, hr, hp] using hs

/-- A record is written anew: its plan counts it no more, the plan it follows now does. -/
theorem State.following_rewritten {s : State} (hwf : s.engine.records.wf = true) {slot : Nat} {r r' : Record}
    (hlook : s.engine.records.look slot = some r) (list : List Deadline) (plans : Table Plan) (k : Nat) :
    (s.rewritten slot r' list plans).following k + (if routeOn k r.route then 1 else 0) =
      s.following k + if routeOn k r'.route then 1 else 0 := by
  have hcount := Table.countP_put (fun r : Record => routeOn k r.route) hwf slot r'
  rw [hlook, Option.any_some] at hcount
  rw [State.following_eq_countP, State.following_eq_countP]
  exact hcount

/-- A record written anew on its plan, or on none as before. -/
theorem State.planLaw_rewritten {s : State} (hwf : s.engine.records.wf = true) (hs : s.planLaw) {slot : Nat} {r r' : Record}
    (hlook : s.engine.records.look slot = some r) (hplan : r'.route.map (·.plan) = r.route.map (·.plan))
    (list : List Deadline) : (s.rewritten slot r' list s.plans).planLaw := by
  obtain ⟨hcount, hnamed⟩ := s.planLaw_iff.1 hs
  refine (State.planLaw_iff _).2 ⟨fun k p hp => ?_, fun q hq route hroute => ?_⟩
  · have hsame := State.following_rewritten (r' := r') hwf hlook list s.plans k
    have hon : routeOn k r'.route = routeOn k r.route := by simp only [routeOn, hplan]
    rw [hon] at hsame
    rw [hcount k p hp]
    omega
  · rcases Table.mem_put hq with rfl | hq
    · rw [hroute, Option.map_some] at hplan
      obtain ⟨route₀, hroute₀, hsame⟩ := Option.map_eq_some_iff.1 hplan.symm
      rw [← hsame]
      exact hnamed _ (Table.mem_of_look hlook) route₀ hroute₀
    · exact hnamed q hq route hroute

theorem State.RecordChange.plan {s : State} {r r' : Record} (h : s.RecordChange r r') :
    r'.route.map (·.plan) = r.route.map (·.plan) := by
  cases h with
  | takenUp => simp only [Machine.takenUp]; cases r.route <;> rfl
  | custody | booked | staged | accrued | overdue => rfl

theorem isSome_look_plansLeft (plans : Table Plan) (route : Option Route) (k : Nat) :
    ((plansLeft plans route).look k).isSome = (plans.look k).isSome := by
  rw [look_plansLeft, Option.isSome_map]

/-- A record switched onto a defined plan (R118, R127). -/
theorem State.planLaw_switched {s : State} (hwf : s.engine.records.wf = true) (hs : s.planLaw) {slot : Nat} {r r' : Record}
    (hlook : s.engine.records.look slot = some r) {k : Nat} (hplan : (s.plans.look k).isSome = true)
    (hroute : r'.route = some ⟨k, 0⟩) (list : List Deadline) :
    (s.rewritten slot r' list (plansSwitched s.plans r.route k)).planLaw := by
  obtain ⟨hcount, hnamed⟩ := s.planLaw_iff.1 hs
  have hjoined : plansSwitched s.plans r.route k = plansJoined (plansLeft s.plans r.route) (some ⟨k, 0⟩) := rfl
  refine (State.planLaw_iff _).2 ⟨fun j p hp => ?_, fun q hq route hr => ?_⟩
  · have hfollow := State.following_rewritten (r' := r') hwf hlook list (plansSwitched s.plans r.route k) j
    rw [hroute] at hfollow
    rw [show (s.rewritten slot r' list (plansSwitched s.plans r.route k)).plans = _ from hjoined, look_plansJoined,
      look_plansLeft, Option.map_map] at hp
    obtain ⟨p₀, hp₀, rfl⟩ := Option.map_eq_some_iff.1 hp
    have hpos := State.following_rewritten (r' := { r with route := none }) hwf hlook list s.plans j
    have hnone : routeOn j (none : Option Route) = false := rfl
    simp only [hnone, Bool.false_eq_true, if_false] at hpos
    simp only [Function.comp_apply, hcount j p₀ hp₀]
    omega
  · have hsome : ∀ i, ((plansSwitched s.plans r.route k).look i).isSome = (s.plans.look i).isSome := fun i => by
      rw [hjoined, look_plansJoined, Option.isSome_map, isSome_look_plansLeft]
    rw [show (s.rewritten slot r' list (plansSwitched s.plans r.route k)).plans = plansSwitched s.plans r.route k from rfl,
      hsome]
    rcases Table.mem_put hq with rfl | hq
    · rw [hroute] at hr
      cases hr
      exact hplan
    · exact hnamed q hq route hr

/-- A record opened in a free slot, on a plan that is defined or on none (R118). -/
theorem State.planLaw_added {s : State} (hwf : s.engine.records.wf = true) (hs : s.planLaw) {slot : Nat} {r : Record}
    (hfree : s.engine.records.look slot = none)
    (hplan : ∀ route, r.route = some route → (s.plans.look route.plan).isSome = true) : (s.added slot r).planLaw := by
  obtain ⟨hcount, hnamed⟩ := s.planLaw_iff.1 hs
  refine (State.planLaw_iff _).2 ⟨fun k p hp => ?_, fun q hq route hroute => ?_⟩
  · have hput := Table.countP_put (fun r : Record => routeOn k r.route) hwf slot r
    rw [show (s.added slot r).plans = plansJoined s.plans r.route from rfl, look_plansJoined] at hp
    obtain ⟨p₀, hp₀, rfl⟩ := Option.map_eq_some_iff.1 hp
    have hfollow := hcount k p₀ hp₀
    rw [State.following_eq_countP] at hfollow ⊢
    simp only [hfree, Option.any_none, Bool.false_eq_true, if_false, Nat.add_zero] at hput
    simp only [State.added, hput, hfollow]
  · rw [show (s.added slot r).plans = plansJoined s.plans r.route from rfl, look_plansJoined, Option.isSome_map]
    rcases Table.mem_put hq with rfl | hq
    · exact hplan route hroute
    · exact hnamed q hq route hroute

/-- A retired record's plan counts one less (R23, R118). -/
theorem State.planLaw_removed {s : State} (hwf : s.engine.records.wf = true) (hs : s.planLaw) {h : Handle} {r : Record}
    (hlook : s.engine.records.look h.slot = some r) : (s.removed h r).planLaw := by
  obtain ⟨hcount, hnamed⟩ := s.planLaw_iff.1 hs
  refine (State.planLaw_iff _).2 ⟨fun k p hp => ?_, fun q hq route hroute => ?_⟩
  · have hdel := Table.countP_del (fun r : Record => routeOn k r.route) hwf h.slot
    rw [hlook, Option.any_some] at hdel
    rw [show (s.removed h r).plans = plansLeft s.plans r.route from rfl, look_plansLeft] at hp
    obtain ⟨p₀, hp₀, rfl⟩ := Option.map_eq_some_iff.1 hp
    have hfollow := hcount k p₀ hp₀
    rw [State.following_eq_countP] at hfollow ⊢
    simp only [State.removed, hfollow]
    omega
  · rw [show (s.removed h r).plans = plansLeft s.plans r.route from rfl, isSome_look_plansLeft]
    exact hnamed q (Table.mem_del hq) route hroute

/-- A plan that no live record names may be written or cleared. -/
theorem State.following_of_planRefs {s : State} (hs : s.planLaw) {n : Nat} (hrefs : s.planRefs n = 0) :
    (∀ q ∈ s.engine.records, ∀ route, q.2.route = some route → route.plan ≠ n) ∧ s.following n = 0 := by
  obtain ⟨hcount, hnamed⟩ := s.planLaw_iff.1 hs
  have hnone : ∀ q ∈ s.engine.records, ∀ route, q.2.route = some route → route.plan ≠ n := by
    rintro q hq route hroute rfl
    obtain ⟨p, hp⟩ := Option.isSome_iff_exists.1 (hnamed q hq route hroute)
    have hzero : s.following route.plan = 0 := by
      rw [← hcount _ p hp]
      simpa [State.planRefs, hp] using hrefs
    rw [State.following_eq_countP, List.countP_eq_zero] at hzero
    exact hzero q hq (by rw [hroute]; exact (routeOn_iff _ _).2 rfl)
  refine ⟨hnone, ?_⟩
  rw [State.following_eq_countP, List.countP_eq_zero]
  intro q hq hon
  cases hroute : q.2.route with
  | none => rw [hroute] at hon; cases hon
  | some route =>
    rw [hroute, routeOn_iff] at hon
    exact hnone q hq route hroute hon.symm

theorem State.TableChange.planLaw {s t : State} (h : s.TableChange t) (hslot : s.slotLaw) (hs : s.planLaw) : t.planLaw := by
  obtain ⟨hwf, -, -, -, -, -, hfrees, -⟩ := hslot
  cases h with
  | kept _ ht => exact State.planLaw_congr ht hs
  | rewritten _ slot r r' list hlook hchange ht =>
    exact State.planLaw_congr ht (State.planLaw_rewritten hwf hs hlook hchange.plan list)
  | switched _ slot r k p list hlook hplan ht =>
    exact State.planLaw_congr ht (State.planLaw_switched hwf hs hlook (by rw [hplan]; rfl) rfl list)
  | opened _ n bin zone prio slot cls plan wave m rest _ _ hplan _ hfree _ ht =>
    refine State.planLaw_congr ht (State.planLaw_added hwf hs ((hfrees slot).1 (by rw [hfree]; simp)).2 fun route hr => ?_)
    obtain ⟨k, hk, rfl⟩ := Option.map_eq_some_iff.1 hr
    exact hplan k hk
  | retired _ h r hrec ht =>
    exact State.planLaw_congr ht (State.planLaw_removed hwf hs (State.look_of_recordOf hrec).1)
  | planWritten n legs hrefs =>
    obtain ⟨hcount, hnamed⟩ := s.planLaw_iff.1 hs
    obtain ⟨-, hzero⟩ := State.following_of_planRefs hs hrefs
    refine (State.planLaw_iff _).2 ⟨fun k p hp => ?_, fun q hq route hroute => ?_⟩
    · simp only [State.modPlans_plans, Table.look_put] at hp
      split at hp
      · next hk => cases hp; rw [hk]; exact hzero.symm
      · exact hcount k p hp
    · simp only [State.modPlans_plans, Table.look_put]
      split
      · rfl
      · exact hnamed q hq route hroute
  | planCleared n hrefs =>
    obtain ⟨hcount, hnamed⟩ := s.planLaw_iff.1 hs
    obtain ⟨hunnamed, -⟩ := State.following_of_planRefs hs hrefs
    refine (State.planLaw_iff _).2 ⟨fun k p hp => ?_, fun q hq route hroute => ?_⟩
    · simp only [State.modPlans_plans, Table.look_del] at hp
      split at hp
      · cases hp
      · exact hcount k p hp
    · simp only [State.modPlans_plans, Table.look_del, if_neg (hunnamed q hq route hroute)]
      exact hnamed q hq route hroute
  | cleared _ ht => exact State.planLaw_congr ht planLaw_reset

/-! ## The law of the masks -/

/-- No receiver mask and no stored override of a record is empty (R14, R16). -/
def Record.MasksLaw (r : Record) : Prop :=
  (∀ spot, r.custody.spot = some spot → spot.mask ≠ 0) ∧ ∀ m, r.custody.receiverOverride = some m → m ≠ 0

theorem Custody.receiverOverride_eq_some (c : Custody) (m : Byte) :
    c.receiverOverride = some m ↔ ∃ n k receiver timing, c = .booked n k receiver (some m) timing := by
  cases c <;> simp [Custody.receiverOverride]

theorem State.maskLaw_iff (s : State) :
    s.maskLaw ↔ (∀ p ∈ s.plans, ∀ l ∈ p.2.legs, l.mask ≠ 0) ∧ (∀ p ∈ s.engine.cells, p.2.accept ≠ 0) ∧
      (∀ p ∈ s.rules, p.2.overrides = true → p.2.overrideMask ≠ 0) ∧ ∀ p ∈ s.engine.records, p.2.MasksLaw := by
  refine and_congr_right fun _ => and_congr_right fun _ => and_congr_right fun _ => forall₂_congr fun p _ =>
    and_congr_right fun _ => ?_
  simp only [Custody.receiverOverride_eq_some]
  constructor
  · rintro h m ⟨n, k, receiver, timing, hc⟩
    exact h n k receiver m timing hc
  · exact fun h n k receiver m timing hc => h m ⟨n, k, receiver, timing, hc⟩

/-- The mask that SETDOWN gives is not empty, when the record's cell is defined (R14). -/
theorem State.setdownMask_ne_zero {s : State} (hs : s.maskLaw) {r : Record} (hr : r.MasksLaw) {carrier k : Nat}
    {receiver : Option Nat} {ov : Option Byte} {timing : Timing} (hcustody : r.custody = .booked carrier k receiver ov timing)
    (hcell : (s.cell k).isSome = true) : s.setdownMask r k ov ≠ 0 := by
  obtain ⟨hlegs, haccepts, -⟩ := hs
  obtain ⟨c, hc⟩ := Option.isSome_iff_exists.1 hcell
  unfold State.setdownMask
  split
  · next m => exact hr.2 m (by rw [hcustody]; rfl)
  · split
    · next leg hleg =>
      obtain ⟨route, -, hlook⟩ := Option.bind_eq_some_iff.1 hleg
      obtain ⟨p, hp, hmem⟩ := Option.bind_eq_some_iff.1 hlook
      exact hlegs _ (Table.mem_of_look hp) leg (List.mem_of_getElem? hmem)
    · rw [hc]
      exact haccepts _ (Table.mem_of_look hc)

theorem State.RecordChange.masks {s : State} {r r' : Record} (h : s.RecordChange r r') (hs : s.maskLaw) (hr : r.MasksLaw)
    (hcell : ∀ k, r.custody.cell = some k → (s.cell k).isSome = true) : r'.MasksLaw := by
  obtain ⟨-, -, hrules, -⟩ := id hs
  cases h with
  | custody c _ hspot hover => exact ⟨fun spot hc => hr.1 spot (hspot spot hc), fun m hc => hr.2 m (hover m hc)⟩
  | booked n k receiver m timing hm =>
    refine ⟨nofun, fun mask hmask => ?_⟩
    obtain ⟨p, hp, hover⟩ := Option.bind_eq_some_iff.1 hmask
    obtain ⟨hset, hmask⟩ := Option.ite_none_right_eq_some.1 hover
    cases hmask
    exact hrules p (hm p hp) hset
  | staged carrier k receiver ov timing hcustody =>
    refine ⟨fun spot hc => ?_, nofun⟩
    cases hc
    exact State.setdownMask_ne_zero hs hr hcustody (hcell k (by rw [hcustody]; rfl))
  | takenUp => exact ⟨nofun, nofun⟩
  | accrued | overdue => exact hr

/-- A rescue switch gives a placed record leg 0's mask, and clears an override (R128 to R131). -/
theorem Record.masks_switched (r : Record) (k : Nat) {p : Plan} (hcount : 1 ≤ p.legs.length)
    (hmasks : ∀ l ∈ p.legs, l.mask ≠ 0) : (r.switched k p).MasksLaw := by
  have hfirst : (p.legs.head?.map (·.mask)).getD 0 ≠ 0 := by
    cases hlegs : p.legs with
    | nil => rw [hlegs] at hcount; exact absurd hcount (by decide)
    | cons leg legs => exact hmasks leg (by rw [hlegs]; exact List.mem_cons_self)
  unfold Record.MasksLaw
  simp only [Record.switched]
  cases r.custody with
  | carried | booked => exact ⟨nofun, nofun⟩
  | staged | claimed => exact ⟨fun spot hc => by cases hc; exact hfirst, nofun⟩

theorem State.RecordStep.masks {s : State} {r r' : Record} (h : s.RecordStep r r') (hrecord : s.recordLaw) (hs : s.maskLaw)
    (hr : r.MasksLaw) (hcell : ∀ k, r.custody.cell = some k → (s.cell k).isSome = true) : r'.MasksLaw := by
  rcases h with rfl | h | ⟨k, p, hp, rfl⟩
  · exact hr
  · exact h.masks hs hr hcell
  · obtain ⟨-, hlegs, -⟩ := hrecord
    obtain ⟨hmasks, -⟩ := hs
    have hmem := Table.mem_of_look hp
    exact Record.masks_switched _ k (hlegs _ hmem).1 (hmasks _ hmem)

/-- Before a command's change: the masks and the records keep their laws, and a record's cell is defined. -/
def State.MasksReady (s : State) : Prop :=
  s.recordLaw ∧ s.maskLaw ∧ ∀ p ∈ s.engine.records, ∀ k, p.2.custody.cell = some k → (s.cell k).isSome = true

/-- The law of the masks after one change of the tables. -/
theorem State.TableChange.maskLaw {s t : State} (h : s.TableChange t) (hranges : s.RangesKept t) (hs : s.MasksReady) :
    t.maskLaw := by
  obtain ⟨hrecord, hmask, hcells⟩ := hs
  obtain ⟨hlegs, haccepts, hrules, hrecords⟩ := s.maskLaw_iff.1 hmask
  refine (State.maskLaw_iff _).2 ⟨hranges.legMasks hlegs, hranges.accepts haccepts, hranges.overrides hrules, fun q hq => ?_⟩
  rcases h.mem_records hq with ⟨r, hr, hstep⟩ | ⟨n, bin, zone, prio, cls, plan, wave, m, -, -, -, heq⟩
  · exact hstep.masks hrecord hmask (hrecords _ hr) (hcells _ hr)
  · rw [heq]
    exact ⟨nofun, nofun⟩

theorem State.MasksReady.of_kept {s t : State} (h : s.MasksReady) (ht : t.tables = s.tables)
    (hcells : t.engine.cells = s.engine.cells) (hranges : s.RangesKept t) : t.MasksReady := by
  have htable := State.TableChange.kept t ht
  refine ⟨htable.recordLaw hranges h.1, htable.maskLaw hranges h, ?_⟩
  have hrecords : t.engine.records = s.engine.records := congrArg TableView.records ht
  simpa only [State.cell, hcells, hrecords] using h.2.2

/-- Another timing keeps the cell of a record. -/
theorem Record.cell_timed (r : Record) (timing : Timing) : (r.timed timing).custody.cell = r.custody.cell := by
  simp only [Record.timed, Record.retimed]
  cases hc : r.custody with
  | carried | staged => rw [hc]
  | booked | claimed => rfl

theorem State.MasksReady.alignHold {s : State} (h : s.MasksReady) (slot : Nat) (up : Bool) :
    (s.alignHold slot up).MasksReady := by
  have htable := s.alignHold_tables slot up
  refine ⟨htable.recordLaw (.alignHold s slot up) h.1, htable.maskLaw (.alignHold s slot up) h, ?_⟩
  obtain ⟨-, -, hcells⟩ := h
  have hrewritten : ∀ {r timing list}, s.engine.records.look slot = some r →
      ∀ p ∈ (s.rewritten slot (r.timed timing) list s.plans).engine.records, ∀ k, p.2.custody.cell = some k →
        (s.cell k).isSome = true := by
    intro r timing list hlook p hp k hk
    rcases Table.mem_put hp with rfl | hp
    · rw [Record.cell_timed] at hk
      exact hcells _ (Table.mem_of_look hlook) k hk
    · exact hcells p hp k hk
  rcases s.alignHold_cases slot up with ⟨h, -⟩ | ⟨-, r, _, hlook, -, h⟩ | ⟨-, r, _, hlook, -, h⟩
  · rw [h]; exact hcells
  · rw [h]; exact hrewritten hlook
  · rw [h]; exact hrewritten hlook

/-- Every step keeps the law of the masks. -/
theorem step_maskLaw {s t : State} (hs : s.MasksReady) (hstep : step s = .next t) : t.maskLaw := by
  refine step_establishes (P := State.MasksReady) (Q := State.maskLaw)
    (fun u v hq hu => hu.of_kept hq.tables hq.cells hq.ranges) (fun u n l e _ hu => ?_) (fun u v hc hu => ?_)
    (fun u v hq hu => ?_) hstep hs
  · have hput : (u.putRobot n { e with lastLink := some l }).MasksReady := hu.of_kept rfl rfl (.of_eq rfl rfl rfl rfl rfl)
    unfold State.linkUpdate
    split
    · exact hput.alignHold _ _
    · exact hput
  · rcases hc.tables with ht | ⟨w, l, up, htables, hcells, hranges, rfl⟩
    · exact ht.maskLaw hc.ranges hu
    · exact (State.alignLink_induction (P := State.MasksReady) (fun s slot up h => h.alignHold slot up)
        (hu.of_kept htables hcells hranges) l up).2.1
  · obtain ⟨hlegs, haccepts, hrules, hrecords⟩ := u.maskLaw_iff.1 hu
    exact (State.maskLaw_iff _).2 ⟨hq.ranges.legMasks hlegs, hq.ranges.accepts haccepts, hq.ranges.overrides hrules,
      hq.records ▸ hrecords⟩

/-- Settles O58. Records and plans by one change of the tables; the masks with the cells that SETDOWN reads at hand. -/
theorem stepKeepsRecordLaw : Obligations.StepKeepsRecordLaw := by
  intro s t hslot hstep
  refine ⟨fun hs => ?_, fun hs => ?_, fun hs => ?_⟩
  · exact step_keeps_tables (P := State.recordLaw) (fun _ _ ht hranges hu => ht.recordLaw hranges hu) hstep hs
  · exact (step_keeps_tables (P := fun s => s.slotLaw ∧ s.planLaw)
      (fun _ _ ht _ hu => ⟨ht.slotLaw hu.1, ht.planLaw hu.1 hu.2⟩) hstep ⟨hslot, hs⟩).2
  · obtain ⟨-, hrecord, -, hmask, -, ⟨-, hcells⟩, -⟩ := hs
    exact step_maskLaw ⟨hrecord, hmask, hcells⟩ hstep

end Sys2Proof.Machine
end

section
/-! SUPPORT. The deadline list as the list of what is due: disarming, arming and raising, and the records that give it. -/

namespace Sys2Proof.Machine

/-! ## What is due -/

/-- The deadline of a record with the kind of its state, if it has one (R19, R136). -/
def Record.due (r : Record) : Option (Word × DeadlineKind) :=
  match r.custody.timing with
  | some (.armed d) => some (d, r.deadlineKind)
  | _ => none

theorem Record.due_eq_some (r : Record) (d : Word) (kind : DeadlineKind) :
    r.due = some (d, kind) ↔ r.custody.timing = some (.armed d) ∧ r.deadlineKind = kind := by
  unfold Record.due
  split
  · next d' h => simp [h]
  · next h =>
    constructor
    · exact nofun
    · exact fun ⟨hd, _⟩ => absurd hd (h d)

theorem Record.due_of_untimed {r : Record} (h : r.custody.timing = none) : r.due = none := by
  simp only [Record.due, h]

def State.dueOf (s : State) (h : Handle) : Option (Word × DeadlineKind) := (s.recordOf h).bind Record.due

theorem State.dueOf_eq_some (s : State) (h : Handle) (d : Word) (kind : DeadlineKind) :
    s.dueOf h = some (d, kind) ↔
      ∃ r, s.recordOf h = some r ∧ r.custody.timing = some (.armed d) ∧ r.deadlineKind = kind := by
  simp only [State.dueOf, Option.bind_eq_some_iff, Record.due_eq_some]

/-- What an entry says beside whether it was raised. -/
def Deadline.key (e : Deadline) : Word × Handle × DeadlineKind := (e.instant, e.handle, e.kind)

/-- A list has one entry for each handle at which something is due, and no other. -/
def Lists (list : List Deadline) (due : Handle → Option (Word × DeadlineKind)) : Prop :=
  (list.map (·.handle)).Nodup ∧ ∀ h d kind, (d, h, kind) ∈ list.map Deadline.key ↔ due h = some (d, kind)

theorem mem_keys_iff (list : List Deadline) (d : Word) (h : Handle) (kind : DeadlineKind) :
    (d, h, kind) ∈ list.map Deadline.key ↔ ∃ raised, ⟨d, h, kind, raised⟩ ∈ list := by
  rw [List.mem_map]
  constructor
  · rintro ⟨⟨_, _, _, raised⟩, hmem, heq⟩
    cases heq
    exact ⟨raised, hmem⟩
  · rintro ⟨raised, hmem⟩
    exact ⟨_, hmem, rfl⟩

/-- A BOOKED or CLAIMED record is armed exactly while its party's last link is UP (R146). -/
def State.inLine (s : State) (r : Record) : Prop :=
  ∀ n, r.custody.timing.isSome = true → r.custody.party = some n →
    ∃ l, s.lastLink n = some l ∧ (s.linkUp l = true ↔ r.isArmed = true)

theorem State.deadlineLaw_iff (s : State) :
    s.deadlineLaw ↔ Lists s.timer.list s.dueOf ∧ ∀ p ∈ s.engine.records, s.inLine p.2 := by
  unfold State.deadlineLaw Lists
  simp only [mem_keys_iff, State.dueOf_eq_some, and_assoc]
  rfl

/-! ## The operations on the list -/

namespace Lists

variable {list list' : List Deadline} {due : Handle → Option (Word × DeadlineKind)}

/-- Whether entries were raised does not matter. -/
theorem of_keys (h : Lists list due) (hkeys : list'.map Deadline.key = list.map Deadline.key) : Lists list' due := by
  have hhandles : list'.map (·.handle) = list.map (·.handle) := by
    have hmap := congrArg (List.map fun x : Word × Handle × DeadlineKind => x.2.1) hkeys
    rw [List.map_map, List.map_map] at hmap
    exact hmap
  exact ⟨hhandles ▸ h.1, hkeys ▸ h.2⟩

/-- Disarming a handle leaves nothing due at it (R138). -/
theorem disarm (h : Lists list due) (x : Handle) :
    Lists (list.filter fun e => e.handle ≠ x) (Function.update due x none) := by
  obtain ⟨hnodup, hdue⟩ := h
  refine ⟨hnodup.sublist (List.filter_sublist.map _), fun y d kind => ?_⟩
  have hy := hdue y d kind
  rw [mem_keys_iff] at hy ⊢
  simp only [List.mem_filter, decide_eq_true_eq]
  by_cases hxy : y = x
  · subst hxy
    simp
  · rw [Function.update_of_ne hxy, ← hy]
    simp only [ne_eq, hxy, not_false_eq_true, and_true]

theorem insertDeadline_perm (d : Deadline) (list : List Deadline) : (insertDeadline d list).Perm (d :: list) := by
  induction list with
  | nil => exact .refl _
  | cons e list ih =>
    unfold insertDeadline
    split
    · exact .refl _
    · exact (ih.cons e).trans (.swap d e list)

/-- Arming a handle at which nothing is due (R137). -/
theorem arm (h : Lists list due) {e : Deadline} (hnone : due e.handle = none) :
    Lists (insertDeadline e list) (Function.update due e.handle (some (e.instant, e.kind))) := by
  obtain ⟨hnodup, hdue⟩ := h
  have hperm := insertDeadline_perm e list
  have hnew : e.handle ∉ list.map (·.handle) := by
    intro hmem
    obtain ⟨e', he', heq⟩ := List.mem_map.1 hmem
    have hkey := (hdue e'.handle e'.instant e'.kind).1 (List.mem_map_of_mem he')
    rw [heq, hnone] at hkey
    cases hkey
  refine ⟨(hperm.map _).nodup_iff.2 (List.nodup_cons.2 ⟨hnew, hnodup⟩), fun y d kind => ?_⟩
  rw [(hperm.map _).mem_iff, List.map_cons, List.mem_cons, hdue y d kind]
  by_cases hy : y = e.handle
  · subst hy
    simp [hnone, Deadline.key, eq_comm]
  · simp [Deadline.key, hy]

end Lists

/-- Raising an expiry leaves instants, handles and kinds (R139). -/
theorem raiseFirst_keys {clock : Word} {list rest : List Deadline} {d : Deadline}
    (h : raiseFirst clock list = some (d, rest)) : rest.map Deadline.key = list.map Deadline.key := by
  induction list generalizing rest with
  | nil => cases h
  | cons e list ih =>
    simp only [raiseFirst] at h
    split at h
    · cases h
      rfl
    · obtain ⟨⟨d', rest'⟩, hrest, heq⟩ := Option.map_eq_some_iff.1 h
      cases heq
      rw [List.map_cons, List.map_cons, ih hrest]

/-! ## What is due after a change of the table -/

/-- A slot has one handle at a time (R2). -/
theorem State.handle_unique {s : State} {x h : Handle} (hx : s.generation x.slot = x.gen) (hh : s.generation h.slot = h.gen)
    (hslot : x.slot = h.slot) : x = h := by
  have hgen : x.gen = h.gen := by rw [← hx, ← hh, hslot]
  cases x
  cases h
  exact congrArg₂ Handle.mk hslot hgen

/-- A live record written anew changes what is due at its own handle only. -/
theorem State.dueOf_rewritten {s : State} {h : Handle} {r : Record} (hrec : s.recordOf h = some r) (r' : Record)
    (list : List Deadline) (plans : Table Plan) :
    (s.rewritten h.slot r' list plans).dueOf = Function.update s.dueOf h r'.due := by
  funext x
  by_cases hx : x = h
  · subst hx
    obtain ⟨hlook, -⟩ := State.look_of_recordOf hrec
    rw [Function.update_self, State.dueOf, (State.recordOf_rewritten hlook hrec).1, if_pos rfl, Option.bind_some]
  · rw [Function.update_of_ne hx]
    obtain ⟨-, hgen⟩ := State.look_of_recordOf hrec
    unfold State.dueOf State.recordOf
    rw [show (s.rewritten h.slot r' list plans).generation x.slot = s.generation x.slot from rfl]
    split
    · next hxgen =>
      have hslot : x.slot ≠ h.slot := fun hslot => hx (State.handle_unique hxgen hgen hslot)
      rw [show (s.rewritten h.slot r' list plans).engine.records.look x.slot = s.engine.records.look x.slot from
        Table.look_put_ne _ _ hslot]
    · rfl

/-- A record opens with nothing due. -/
theorem State.dueOf_added {s : State} {slot : Nat} {r : Record} (hfree : s.engine.records.look slot = none)
    (hr : r.due = none) : (s.added slot r).dueOf = s.dueOf := by
  funext x
  unfold State.dueOf State.recordOf
  rw [show (s.added slot r).generation x.slot = s.generation x.slot from rfl]
  split
  · rw [show (s.added slot r).engine.records.look x.slot = if x.slot = slot then some r else s.engine.records.look x.slot
      from Table.look_put _ _ _ _]
    split
    · next hslot => rw [hslot, hfree, Option.bind_some, hr, Option.bind_none]
    · rfl
  · rfl

/-- Nothing is due at the handle of a retired record. -/
theorem State.dueOf_removed {s : State} {h : Handle} {r : Record} (hrec : s.recordOf h = some r) :
    (s.removed h r).dueOf = Function.update s.dueOf h none := by
  obtain ⟨-, hgen⟩ := State.look_of_recordOf hrec
  funext x
  by_cases hslot : x.slot = h.slot
  · have hnew : (s.removed h r).dueOf x = none := by
      unfold State.dueOf State.recordOf
      split
      · simp [State.removed, Table.look_del, hslot]
      · rfl
    rw [hnew]
    by_cases hx : x = h
    · rw [hx, Function.update_self]
    · rw [Function.update_of_ne hx]
      have hother : s.generation x.slot ≠ x.gen := fun hxgen => hx (State.handle_unique hxgen hgen hslot)
      simp only [State.dueOf, State.recordOf, if_neg hother, Option.bind_none]
  · rw [Function.update_of_ne fun hx => hslot (by rw [hx])]
    unfold State.dueOf State.recordOf
    have hgens : (s.removed h r).generation x.slot = s.generation x.slot := by
      simp only [State.generation, State.removed, Table.lookD_putD, if_neg hslot]
    rw [hgens, show (s.removed h r).engine.records.look x.slot = s.engine.records.look x.slot from
      by simp only [State.removed, Table.look_del, if_neg hslot]]

end Sys2Proof.Machine
end

section
/-! SUPPORT. What every change does to the deadlines: one record's timing, or those of the records on a link. -/

namespace Sys2Proof.Machine

/-! ## The view -/

/-- What the law of the deadline list reads. -/
structure DeadlineView where
  records : Table Record
  gens : Table Nat
  timer : DeadlineTimer
  linkUp : Link → Bool
  lastLink : Nat → Option Link

def State.deadlineView (s : State) : DeadlineView := ⟨s.engine.records, s.engine.gens, s.timer, s.linkUp, s.lastLink⟩

theorem State.Side.deadlineView {s t : State} (h : s.Side t) : t.deadlineView = s.deadlineView := by
  have hup : t.linkUp = s.linkUp := funext h.linkUp
  have hlast : t.lastLink = s.lastLink := funext h.lastLink
  simp only [State.deadlineView, h.records, h.gens, h.timer, hup, hlast]

/-- Records in line by the same links. -/
theorem State.inLine_congr {s t : State} (h : t.deadlineView = s.deadlineView) (r : Record) : t.inLine r ↔ s.inLine r := by
  have hup : t.linkUp = s.linkUp := congrArg DeadlineView.linkUp h
  have hlast : t.lastLink = s.lastLink := congrArg DeadlineView.lastLink h
  simp only [State.inLine, hup, hlast]

theorem State.dueOf_congr {s t : State} (h : t.deadlineView = s.deadlineView) : t.dueOf = s.dueOf := by
  have hrecords : t.engine.records = s.engine.records := congrArg DeadlineView.records h
  have hgens : t.engine.gens = s.engine.gens := congrArg DeadlineView.gens h
  funext x
  unfold State.dueOf State.recordOf State.generation
  rw [hrecords, hgens]

theorem State.deadlineLaw_congr {s t : State} (h : t.deadlineView = s.deadlineView) (hs : s.deadlineLaw) : t.deadlineLaw := by
  have hrecords : t.engine.records = s.engine.records := congrArg DeadlineView.records h
  have htimer : t.timer = s.timer := congrArg DeadlineView.timer h
  rw [State.deadlineLaw_iff] at hs ⊢
  simpa only [hrecords, htimer, State.dueOf_congr h, State.inLine_congr h] using hs

/-! ## One record's timing -/

/-- Every link's windows are in range (R197). -/
def State.WindowsInRange (s : State) : Prop :=
  ∀ l, (s.ports.robotLink l).bookWindow ≤ 255 ∧ (s.ports.robotLink l).claimWindow ≤ 255

/-- How a change treats the timing of the record a handle names, with the deadline list after it. -/
inductive State.TimingChange (s : State) (h : Handle) (r : Record) : Record → List Deadline → Prop
  | kept (r' : Record) (htiming : r'.custody.timing = r.custody.timing) (hkind : r'.deadlineKind = r.deadlineKind) :
      s.TimingChange h r r' s.timer.list
  | ended (r' : Record) (huntimed : r'.custody.timing = none) : s.TimingChange h r r' (s.disarmed h)
  | started (r' : Record) (l : Link) (window : Nat) (huntimed : r.custody.timing = none)
      (htiming : r'.custody.timing = some (s.startedTiming l window)) (hwindow : s.WindowsInRange → window ≤ 255) :
      s.TimingChange h r r' (s.startedList h r'.deadlineKind l window)
  | armed (saved : Nat) (htiming : r.custody.timing = some (.held saved)) :
      s.TimingChange h r (r.timed (.armed (s.timer.clock + wordOf saved)))
        (insertDeadline ⟨s.timer.clock + wordOf saved, h, r.deadlineKind, false⟩ s.timer.list)
  | held (d : Word) (htiming : r.custody.timing = some (.armed d)) :
      s.TimingChange h r (r.timed (.held (timeLeft s.timer.clock d))) (s.disarmed h)

theorem Record.timing_timed {r : Record} (h : r.custody.timing.isSome = true) (timing : Timing) :
    (r.timed timing).custody.timing = some timing := by
  simp only [Record.timed, Record.retimed]
  cases hc : r.custody with
  | carried | staged => rw [hc] at h; cases h
  | booked | claimed => rfl

theorem Record.deadlineKind_timed (r : Record) (timing : Timing) : (r.timed timing).deadlineKind = r.deadlineKind := by
  simp only [Record.timed, Record.retimed]
  cases hc : r.custody with
  | carried | staged => rfl
  | booked | claimed => simp only [Record.deadlineKind, hc]

theorem Record.partyRole_timed (r : Record) (timing : Timing) : (r.timed timing).custody.partyRole = r.custody.partyRole := by
  simp only [Record.timed, Record.retimed]
  cases hc : r.custody with
  | carried | staged => simp only [hc]
  | booked | claimed => rfl

theorem Custody.party_eq (c : Custody) : c.party = c.partyRole.map Prod.fst := by cases c <;> rfl

/-- A change of a record's timing leaves the list of what is due. -/
theorem State.TimingChange.lists {s : State} {h : Handle} {r r' : Record} {list : List Deadline}
    (hchange : s.TimingChange h r r' list) (hrec : s.recordOf h = some r) (hs : Lists s.timer.list s.dueOf) :
    Lists list (Function.update s.dueOf h r'.due) := by
  have hold : s.dueOf h = r.due := by rw [State.dueOf, hrec, Option.bind_some]
  cases hchange with
  | kept _ htiming hkind =>
    have hdue : r'.due = s.dueOf h := by rw [hold, Record.due, htiming, hkind, Record.due]
    rw [hdue, Function.update_eq_self]
    exact hs
  | ended _ huntimed =>
    rw [Record.due_of_untimed huntimed]
    exact hs.disarm h
  | started _ l window huntimed htiming =>
    have hnone : s.dueOf h = none := hold.trans (Record.due_of_untimed huntimed)
    unfold State.startedTiming at htiming
    unfold State.startedList
    split at htiming
    · next hup =>
      rw [if_pos hup, (Record.due_eq_some _ _ _).2 ⟨htiming, rfl⟩]
      exact hs.arm hnone
    · next hup =>
      have hdue : r'.due = s.dueOf h := by rw [hnone, Record.due, htiming]
      rw [if_neg hup, hdue, Function.update_eq_self]
      exact hs
  | armed saved htiming =>
    have hnone : s.dueOf h = none := by rw [hold, Record.due, htiming]
    rw [(Record.due_eq_some _ _ _).2 ⟨Record.timing_timed (by rw [htiming]; rfl) _, r.deadlineKind_timed _⟩]
    exact hs.arm hnone
  | held d htiming =>
    have hdue : (r.timed (.held (timeLeft s.timer.clock d))).due = none := by
      rw [Record.due, Record.timing_timed (by rw [htiming]; rfl)]
    rw [hdue]
    exact hs.disarm h

/-- One live record's timing is changed, and it is in line then. -/
theorem State.deadlineLaw_rewritten {s : State} {h : Handle} {r r' : Record} {list : List Deadline}
    (hrec : s.recordOf h = some r) (hchange : s.TimingChange h r r' list) (hline : s.inLine r → s.inLine r')
    (hs : s.deadlineLaw) : (s.rewritten h.slot r' list s.plans).deadlineLaw := by
  obtain ⟨hlists, hlines⟩ := s.deadlineLaw_iff.1 hs
  refine (State.deadlineLaw_iff _).2 ⟨?_, fun p hp => ?_⟩
  · rw [State.dueOf_rewritten hrec]
    exact hchange.lists hrec hlists
  · rcases Table.mem_put hp with rfl | hp
    · exact hline (hlines _ (Table.mem_of_look (State.look_of_recordOf hrec).1))
    · exact hlines p hp

/-! ## The changes -/

/-- What a change does to the deadlines. -/
inductive State.DeadlineChange (s : State) : State → Prop
  | kept (t : State) (ht : t.deadlineView = s.deadlineView) : s.DeadlineChange t
  | rewritten (t : State) (h : Handle) (r r' : Record) (list : List Deadline) (hrec : s.recordOf h = some r)
      (hchange : s.TimingChange h r r' list) (hline : s.inLine r → s.inLine r')
      (ht : t.deadlineView = (s.rewritten h.slot r' list s.plans).deadlineView) : s.DeadlineChange t
  | opened (t : State) (slot : Nat) (r : Record) (rest : List Nat) (hfree : s.engine.freeSlots = slot :: rest)
      (huntimed : r.custody.timing = none) (ht : t.deadlineView = (s.added slot r).deadlineView) : s.DeadlineChange t
  | retired (t : State) (h : Handle) (r : Record) (hrec : s.recordOf h = some r)
      (ht : t.deadlineView = (s.removed h r).deadlineView) : s.DeadlineChange t
  | withdrawn (n : Nat) (e : Robot) (hrobot : s.robot n = some e) (hparty : e.party = none) :
      s.DeadlineChange (s.modEngine fun g => { g with roster := g.roster.del n })
  | linkTurned (l : Link) (up : Bool) (f : RobotLink → RobotLink) (hup : ∀ k, (f k).up = up)
      (hwindows : ∀ k, (f k).bookWindow = k.bookWindow ∧ (f k).claimWindow = k.claimWindow) :
      s.DeadlineChange ((s.modPorts fun p => p.modLink l f).alignLink l up)
  | raised (t : State) (list : List Deadline) (hkeys : list.map Deadline.key = s.timer.list.map Deadline.key)
      (ht : t.deadlineView = (s.modTimer fun x => { x with list := list }).deadlineView) : s.DeadlineChange t
  | millisecond (t : State) (ht : t.deadlineView = (s.modTimer fun x => { x with clock := x.clock + 1 }).deadlineView) :
      s.DeadlineChange t
  | cleared (t : State) (ht : t.deadlineView = State.reset.deadlineView) : s.DeadlineChange t

theorem State.lastLink_of_heardOn {s : State} {n : Nat} {l : Link} (h : s.heardOn n l) : s.lastLink n = some l := by
  obtain ⟨e, he, hlast⟩ := h
  rw [State.lastLink, he, Option.bind_some, hlast]

/-- A record without timing is in line. -/
theorem State.inLine_of_untimed {s : State} {r : Record} (h : r.custody.timing = none) : s.inLine r := by
  intro n htimed
  rw [h] at htimed
  cases htimed

/-- A record whose timing starts on its party's last link is in line (R61, R68). -/
theorem State.inLine_of_started {s : State} {r : Record} {n : Nat} {l : Link} {window : Nat}
    (hparty : r.custody.party = some n) (hlast : s.lastLink n = some l)
    (htiming : r.custody.timing = some (s.startedTiming l window)) : s.inLine r := by
  intro m _ hm
  rw [hparty] at hm
  cases hm
  refine ⟨l, hlast, ?_⟩
  by_cases hup : s.linkUp l = true <;> simp [Record.isArmed, htiming, State.startedTiming, hup]

/-- A record with the timing and party of one in line is in line. -/
theorem State.inLine_of_same {s : State} {r r' : Record} (htiming : r'.custody.timing = r.custody.timing)
    (hparty : r'.custody.party = r.custody.party) (h : s.inLine r) : s.inLine r' := by
  unfold State.inLine Record.isArmed at h ⊢
  rw [htiming, hparty]
  exact h

theorem Record.switched_timing (r : Record) (k : Nat) (p : Plan) :
    (r.switched k p).custody.timing = r.custody.timing ∧ (r.switched k p).custody.party = r.custody.party ∧
      (r.switched k p).deadlineKind = r.deadlineKind := by
  simp only [Record.switched, Record.deadlineKind]
  cases r.custody <;> exact ⟨rfl, rfl, rfl⟩

/-- Another reading of the roster that gives every robot the last link it had. -/
theorem State.deadlineView_putRobot {s : State} {n : Nat} {e : Robot} (h : e.lastLink = s.lastLink n) :
    (s.putRobot n e).deadlineView = s.deadlineView := by
  have hlast : (s.putRobot n e).lastLink = s.lastLink := by
    funext m
    simp only [State.lastLink, State.robot, State.putRobot, State.modEngine_engine, Table.look_put]
    split
    · next hm => rw [hm, Option.bind_some, h, State.lastLink, State.robot]
    · rfl
  simp only [State.deadlineView, hlast]
  rfl

theorem State.Change.deadlines {s t : State} (h : s.Change t) : s.DeadlineChange t := by
  have hkeep : ∀ {h : Handle} {r r' : Record} {plans : Table Plan} {t : State}, s.recordOf h = some r →
      (s.rewritten h.slot r' s.timer.list plans).Side t → r'.custody.timing = r.custody.timing →
      r'.custody.party = r.custody.party → r'.deadlineKind = r.deadlineKind → s.DeadlineChange t :=
    fun {h r r' _ t} hrec hside htiming hparty hkind =>
      .rewritten t h r r' _ hrec (.kept r' htiming hkind) (State.inLine_of_same htiming hparty) hside.deadlineView
  have hend : ∀ {h : Handle} {r r' : Record} {t : State}, s.recordOf h = some r →
      (s.rewritten h.slot r' (s.disarmed h) s.plans).Side t → r'.custody.timing = Option.none → s.DeadlineChange t :=
    fun {h r r' t} hrec hside huntimed =>
      .rewritten t h r r' _ hrec (.ended r' huntimed) (fun _ => State.inLine_of_untimed huntimed) hside.deadlineView
  cases h with
  | none => exact .kept s rfl
  | declared n bin zone prio slot cls plan wave m notice rest _ _ _ _ _ hfree hm =>
    have hadded := (s.quiet_takeRule m hm notice false).side.added slot (newRecord s n bin cls zone plan wave prio m)
    exact .opened _ slot _ rest hfree rfl (hadded.trans (State.side_openRecord _ _ _ _)).deadlineView
  | booked n k l h r c lapsed receiver m notice hlast hrec hcustody _ _ _ hm =>
    have hrule := (s.quiet_takeRule m hm notice false).side
    have hbook := State.side_bookRecord (s.takeRule m notice false) h r n l k receiver m
    have hwindow := fun hw : s.WindowsInRange => (hrule.ranges.windows hw l).1
    generalize ((s.takeRule m notice false).ports.robotLink l).bookWindow = window at hbook hwindow
    rw [hrule.startedTiming, hrule.startedList, hrule.plans] at hbook
    exact .rewritten _ h r (bookedRecord r n k receiver m (s.startedTiming l window)) _ hrec
      (.started _ l window (by rw [hcustody]; rfl) rfl hwindow)
      (fun _ => State.inLine_of_started rfl (State.lastLink_of_heardOn hlast) rfl)
      ((hrule.rewritten _ _ _ _).trans hbook).deadlineView
  | bookingEnded h r carrier k receiver ov timing lapsed hrec => exact hend hrec (s.side_endBooking _ _ _ _ _) rfl
  | staged h r carrier k receiver ov timing hrec => exact hend hrec (s.side_stageRecord _ _ _ _ _ _) rfl
  | granted n l h r spot lapsed hlast _ hrec hcustody =>
    exact .rewritten _ h r
      { r with custody := .claimed spot n (s.startedTiming l (s.ports.robotLink l).claimWindow) } _ hrec
      (.started _ l _ (by rw [hcustody]; rfl) rfl fun hw => (hw l).2)
      (fun _ => State.inLine_of_started rfl (State.lastLink_of_heardOn hlast) rfl) (s.side_grant _ _ _ _ _).deadlineView
  | claimEnded h r spot claimant timing hrec => exact hend hrec (s.side_endClaim _ _ _ _ _) rfl
  | claimLapsed h r spot claimant timing hrec => exact hend hrec (s.side_claimLapse _ _ _ _) rfl
  | takenUp h r spot claimant timing hrec => exact hend hrec (s.side_takeupRecord _ _ _ _) rfl
  | retired h r hrec => exact .retired _ h r hrec (s.side_retire h r).deadlineView
  | visited slot =>
    cases hr : s.engine.records.look slot with
    | none => simp only [State.visit, hr]; exact .kept s rfl
    | some r => exact hkeep ((s.recordOf_handleOf slot).trans hr) (s.side_visit hr) rfl rfl rfl
  | overdue h =>
    cases hr : s.recordOf h with
    | none => simp only [State.overdueTaken, hr]; exact .kept s rfl
    | some r =>
      rcases State.side_overdueTaken hr with hside | ⟨k, p, -, hside⟩
      · exact hkeep hr hside rfl rfl rfl
      · obtain ⟨htiming, hparty, hkind⟩ := { r with priority := 3 }.switched_timing k p
        exact hkeep hr hside htiming hparty hkind
  | linkTurned l up f hup hwindows => exact .linkTurned l up f hup hwindows
  | cellWritten | cellDeleted | cellReopened | planWritten | planCleared => exact .kept _ rfl
  | cellDrained n c admissions hc =>
    exact .kept _ ((s.side_putCell (c' := { c with state := .draining, admissions := admissions }) hc rfl).trans
      (State.side_closeCheck _ _)).deadlineView
  | robotEnrolled n group hnew =>
    exact .kept _ (State.deadlineView_putRobot (by rw [State.lastLink, hnew, Option.bind_none]))
  | robotWritten n e e' hrobot _ hlast =>
    exact .kept _ (State.deadlineView_putRobot (by rw [State.lastLink, hrobot, Option.bind_some, hlast]))
  | robotWithdrawn n e hrobot hparty => exact .withdrawn n e hrobot hparty
  | expiryRaised =>
    unfold State.raiseExpiry
    split
    · exact .kept s rfl
    · next d rest hraise => exact .raised _ rest (raiseFirst_keys hraise) rfl
  | millisecond => exact .millisecond _ (congrArg (DeadlineView.mk _ _ _ · _) (funext fun l => by cases l <;> rfl))
  | deviceReset => exact .cleared _ s.quiet_deviceReset.side.deadlineView

end Sys2Proof.Machine
end

section
/-! SUPPORT. The records on a link brought into line, and the law of the deadline list after every step. -/

namespace Sys2Proof.Machine

/-! ## Aligned records -/

/-- A record brought into line with a link that is UP or DOWN (R146, R147). -/
def Record.aligned (clock : Word) (up : Bool) (r : Record) : Record :=
  match r.custody.timing, up with
  | some (.held saved), true => r.timed (.armed (clock + wordOf saved))
  | some (.armed d), false => r.timed (.held (timeLeft clock d))
  | _, _ => r

theorem Record.isArmed_timed {r : Record} (h : r.custody.timing.isSome = true) (timing : Timing) :
    (r.timed timing).isArmed = match timing with
      | .armed _ => true
      | .held _ => false := by
  unfold Record.isArmed
  rw [Record.timing_timed h]
  cases timing <;> rfl

theorem Record.isArmed_aligned {r : Record} (h : r.custody.timing.isSome = true) (clock : Word) (up : Bool) :
    (r.aligned clock up).isArmed = up := by
  unfold Record.aligned
  obtain ⟨timing, ht⟩ := Option.isSome_iff_exists.1 h
  cases timing <;> cases up <;> simp only [ht, Record.isArmed_timed h]
  all_goals simp only [Record.isArmed, ht]

theorem Record.aligned_eq (r : Record) (clock : Word) (up : Bool) :
    r.aligned clock up = r ∨ ∃ timing, r.custody.timing.isSome = true ∧ r.aligned clock up = r.timed timing := by
  unfold Record.aligned
  split
  · next h => exact .inr ⟨_, by rw [h]; rfl, rfl⟩
  · next h => exact .inr ⟨_, by rw [h]; rfl, rfl⟩
  · exact .inl rfl

theorem Record.party_aligned (r : Record) (clock : Word) (up : Bool) :
    (r.aligned clock up).custody.party = r.custody.party := by
  rcases r.aligned_eq clock up with h | ⟨timing, -, h⟩
  · rw [h]
  · rw [h, Custody.party_eq, Record.partyRole_timed, ← Custody.party_eq]

theorem Record.timed_of_aligned {r : Record} {clock : Word} {up : Bool}
    (h : (r.aligned clock up).custody.timing.isSome = true) : r.custody.timing.isSome = true := by
  rcases r.aligned_eq clock up with heq | ⟨timing, hr, -⟩
  · rwa [heq] at h
  · exact hr

/-- A record in line already stays as it is. -/
theorem Record.aligned_of_inLine {r : Record} {up : Bool} (h : r.custody.timing.isSome = true → r.isArmed = up)
    (clock : Word) : r.aligned clock up = r := by
  unfold Record.aligned Record.isArmed at *
  cases ht : r.custody.timing with
  | none => rfl
  | some timing => cases timing <;> cases up <;> simp_all

/-! ## One slot, and all on a link -/

/-- Bringing a slot into line changes one record's timing, if any. -/
theorem State.alignHold_timing (s : State) (slot : Nat) (up : Bool) :
    s.alignHold slot up = s ∨ ∃ r r' list, s.engine.records.look slot = some r ∧
      s.TimingChange (s.handleOf slot) r r' list ∧ s.alignHold slot up = s.rewritten slot r' list s.plans := by
  rcases s.alignHold_cases slot up with ⟨h, -⟩ | ⟨-, r, saved, hlook, htiming, h⟩ | ⟨-, r, d, hlook, htiming, h⟩
  · exact .inl h
  · exact .inr ⟨r, _, _, hlook, .armed saved htiming, h⟩
  · exact .inr ⟨r, _, _, hlook, .held d htiming, h⟩

theorem State.look_alignHold (s : State) (slot : Nat) (up : Bool) (i : Nat) :
    (s.alignHold slot up).engine.records.look i =
      if i = slot then (s.engine.records.look i).map (·.aligned s.timer.clock up) else s.engine.records.look i := by
  rcases s.alignHold_cases slot up with ⟨h, hline⟩ | ⟨rfl, r, saved, hlook, htiming, h⟩ | ⟨rfl, r, d, hlook, htiming, h⟩
  · rw [h]
    split
    · next hi =>
      subst hi
      cases hr : s.engine.records.look i with
      | none => rfl
      | some r => rw [Option.map_some, Record.aligned_of_inLine (hline r hr)]
    · rfl
  all_goals
    rw [h]
    refine (Table.look_put _ _ _ _).trans ?_
    split
    · next hi => simp only [hi, hlook, Option.map_some, Record.aligned, htiming]
    · rfl

theorem State.partyOn_iff (s : State) (r : Record) (l : Link) :
    s.partyOn r l = true ↔ ∃ n, r.custody.party = some n ∧ s.lastLink n = some l := by
  unfold State.partyOn
  cases r.custody.party with
  | none => simp
  | some n => simp [State.lastLink]

/-- A link event brings every record whose party was last heard on the link into line, and no other (R146, R147). -/
theorem State.look_alignLink {s : State} (hwf : s.engine.records.wf = true) (l : Link) (up : Bool) (i : Nat) :
    (s.alignLink l up).engine.records.look i =
      (s.engine.records.look i).map fun r => if s.partyOn r l then r.aligned s.timer.clock up else r := by
  have hfold : ∀ (original : Table Record) (t : State), Table.wf original = true → t.engine.roster = s.engine.roster →
      t.timer.clock = s.timer.clock →
      (original.foldl (fun t p => if t.partyOn p.2 l then t.alignHold p.1 up else t) t).engine.records.look i =
        if (Table.look original i).any (s.partyOn · l) then (t.engine.records.look i).map (·.aligned s.timer.clock up)
        else t.engine.records.look i := by
    intro original
    induction original with
    | nil => exact fun t _ _ _ => rfl
    | cons p original ih =>
      obtain ⟨k, r⟩ := p
      intro t hwf hroster hclock
      obtain ⟨hlt, hrest⟩ := List.pairwise_cons.1 (List.map_cons ▸ (Table.wf_iff _).1 hwf)
      have hparty : t.partyOn r l = s.partyOn r l := by simp only [State.partyOn, State.robot, hroster]
      have hgone : Table.look original k = none := by
        rw [Option.eq_none_iff_forall_ne_some]
        intro x hx
        exact Nat.lt_irrefl _ (hlt k (List.mem_map_of_mem (f := Prod.fst) (Table.mem_of_look hx)))
      obtain ⟨records, list, heq⟩ := t.alignHold_eq k up
      rw [List.foldl_cons, ih _ ((Table.wf_iff _).2 hrest) (by dsimp only; split <;> simp [heq, hroster])
        (by dsimp only; split <;> simp [heq, hclock])]
      dsimp only
      by_cases hk : k = i
      · subst hk
        rw [hgone, hparty]
        cases hon : s.partyOn r l <;> simp [Table.look, hon, State.look_alignHold, hclock]
      · have hsame : (if t.partyOn r l then t.alignHold k up else t).engine.records.look i = t.engine.records.look i := by
          split
          · rw [State.look_alignHold, if_neg (Ne.symm hk)]
          · rfl
        rw [hsame]
        simp only [Table.look, hk, if_false]
  unfold State.alignLink
  rw [hfold s.engine.records s hwf rfl rfl]
  cases s.engine.records.look i with
  | none => rfl
  | some r => cases hon : s.partyOn r l <;> simp [hon]

theorem lists_alignHold {s : State} (hs : Lists s.timer.list s.dueOf) (slot : Nat) (up : Bool) :
    Lists (s.alignHold slot up).timer.list (s.alignHold slot up).dueOf := by
  rcases s.alignHold_timing slot up with h | ⟨r, r', list, hlook, hchange, h⟩
  · rw [h]; exact hs
  · have hrec := (s.recordOf_handleOf slot).trans hlook
    rw [h, show (s.rewritten slot r' list s.plans).dueOf = _ from State.dueOf_rewritten hrec r' list s.plans]
    exact hchange.lists hrec hs

/-! ## The link update of intake -/

/-- A robot is the party of the record that its reference names, and of no other (R82). -/
def State.PartiesNamed (s : State) : Prop :=
  ∀ n e, s.robot n = some e → ∀ p ∈ s.engine.records,
    (p.2.custody.party = some n ↔ e.party.map (fun x => x.1.slot) = some p.1)

theorem State.partiesNamed_of_laws {s : State} (hwf : s.engine.records.wf = true) (hs : s.partyLaw) : s.PartiesNamed := by
  intro n e he p hp
  have hlook := (Table.mem_iff_look hwf p).1 hp
  constructor
  · intro hparty
    rw [Custody.party_eq, Option.map_eq_some_iff] at hparty
    obtain ⟨⟨m, role⟩, hrole, rfl⟩ := hparty
    rw [(hs.1 m e he (s.handleOf p.1) role).2 ⟨p.2, (s.recordOf_handleOf p.1).trans hlook, hrole⟩]
    rfl
  · intro hslot
    obtain ⟨⟨h, role⟩, hparty, heq⟩ := Option.map_eq_some_iff.1 hslot
    rw [← show h.slot = p.1 from heq] at hlook
    obtain ⟨r, hrec, hrole⟩ := (hs.1 n e he h role).1 hparty
    rw [(State.look_of_recordOf hrec).1] at hlook
    cases hlook
    rw [Custody.party_eq, hrole, Option.map_some]

theorem State.PartiesNamed.alignHold {s : State} (hwf : s.engine.records.wf = true) (hs : s.PartiesNamed) (slot : Nat)
    (up : Bool) : (s.alignHold slot up).PartiesNamed := by
  have hwf' : (s.alignHold slot up).engine.records.wf = true := by
    rcases s.alignHold_timing slot up with h | ⟨r, r', list, -, -, h⟩
    · rw [h]; exact hwf
    · rw [h]; exact Table.wf_put _ _ _ hwf
  intro n e he p hp
  have hrobot : s.robot n = some e := by
    obtain ⟨records, list, heq⟩ := s.alignHold_eq slot up
    rw [heq] at he
    exact he
  have hlook := (Table.mem_iff_look hwf' p).1 hp
  rw [State.look_alignHold] at hlook
  split at hlook
  · obtain ⟨r, hr, heq⟩ := Option.map_eq_some_iff.1 hlook
    rw [← heq, Record.party_aligned]
    exact hs n e hrobot _ (Table.mem_of_look hr)
  · exact hs n e hrobot _ (Table.mem_of_look hlook)

/-- What the law of the deadline list needs before a step's change. -/
structure State.DeadlinesReady (s : State) : Prop where
  slots : s.slotLaw
  parties : s.PartiesNamed
  deadlines : s.deadlineLaw

theorem State.DeadlinesReady.quiet {s t : State} (h : s.Quiet t) (hs : s.DeadlinesReady) : t.DeadlinesReady :=
  ⟨State.slotLaw_congr h.tables hs.slots, fun n e he => by rw [h.records]; exact hs.parties n e (h.robot n ▸ he),
    State.deadlineLaw_congr h.side.deadlineView hs.deadlines⟩

theorem State.PartiesNamed.putRobot {s : State} (hs : s.PartiesNamed) {n : Nat} {e e' : Robot} (he : s.robot n = some e)
    (hparty : e'.party = e.party) : (s.putRobot n e').PartiesNamed := by
  intro m x hx p hp
  simp only [State.robot, State.putRobot, State.modEngine_engine, Table.look_put] at hx
  split at hx
  · next hm =>
    cases hx
    rw [hm, hparty]
    exact hs n e he p hp
  · exact hs m x hx p hp

/-- A robot was heard on a link (R50). -/
def State.heard (s : State) (n : Nat) (l : Link) (e : Robot) : State := s.putRobot n { e with lastLink := some l }

theorem State.linkUpdate_of_party {s : State} {e : Robot} {h : Handle} {role : Role} (hparty : e.party = some (h, role))
    (n : Nat) (l : Link) : s.linkUpdate n l e = (s.heard n l e).alignHold h.slot ((s.heard n l e).linkUp l) := by
  simp only [State.linkUpdate, hparty, State.heard]

theorem State.linkUpdate_of_none {s : State} {e : Robot} (hparty : e.party = none) (n : Nat) (l : Link) :
    s.linkUpdate n l e = s.heard n l e := by
  simp only [State.linkUpdate, hparty, State.heard]

theorem State.lastLink_heard (s : State) (n : Nat) (l : Link) (e : Robot) (m : Nat) :
    (s.heard n l e).lastLink m = if m = n then some l else s.lastLink m := by
  simp only [State.lastLink, State.robot, State.heard, State.putRobot, State.modEngine_engine, Table.look_put]
  split <;> rfl

theorem State.inLine_alignHold (s : State) (slot : Nat) (up : Bool) (r : Record) :
    (s.alignHold slot up).inLine r ↔ s.inLine r := by
  obtain ⟨records, list, heq⟩ := s.alignHold_eq slot up
  rw [heq]
  exact Iff.rfl

/-- A robot heard on a link: its own record, if it has one, is brought into line with that link (R50). -/
theorem State.DeadlinesReady.linkUpdate {s : State} (hs : s.DeadlinesReady) {n : Nat} {e : Robot} (he : s.robot n = some e)
    (l : Link) : (s.linkUpdate n l e).DeadlinesReady := by
  obtain ⟨hslot, hparties, hlaw⟩ := hs
  obtain ⟨hlists, hlines⟩ := s.deadlineLaw_iff.1 hlaw
  have hheard : (s.heard n l e).PartiesNamed := hparties.putRobot he rfl
  have hother : ∀ p ∈ s.engine.records, p.2.custody.party ≠ some n → (s.heard n l e).inLine p.2 := by
    intro p hp hne m htimed hm
    rw [State.lastLink_heard, if_neg fun h : m = n => hne (h ▸ hm)]
    exact hlines p hp m htimed hm
  cases hparty : e.party with
  | none =>
    rw [State.linkUpdate_of_none hparty]
    refine ⟨hslot, hheard, (State.deadlineLaw_iff _).2 ⟨hlists, fun p hp => hother p hp fun hn => ?_⟩⟩
    have hnamed := (hparties n e he p hp).1 hn
    rw [hparty] at hnamed
    cases hnamed
  | some named =>
    obtain ⟨h, role⟩ := named
    rw [State.linkUpdate_of_party hparty]
    have hslot' := ((s.heard n l e).alignHold_tables h.slot ((s.heard n l e).linkUp l)).slotLaw hslot
    refine ⟨hslot', State.PartiesNamed.alignHold (s := s.heard n l e) hslot.1 hheard _ _, (State.deadlineLaw_iff _).2
      ⟨lists_alignHold (s := s.heard n l e) hlists _ _, fun p hp => ?_⟩⟩
    have hlook := (Table.mem_iff_look hslot'.1 p).1 hp
    rw [State.inLine_alignHold]
    rw [State.look_alignHold] at hlook
    split at hlook
    · next hp =>
      obtain ⟨r, hr, hal⟩ := Option.map_eq_some_iff.1 hlook
      have hn : r.custody.party = some n := (hparties n e he _ (Table.mem_of_look hr)).2 (by rw [hparty, hp]; rfl)
      intro m htimed hm
      rw [← hal] at htimed hm ⊢
      rw [Record.party_aligned, hn] at hm
      cases hm
      refine ⟨l, by rw [State.lastLink_heard, if_pos rfl], ?_⟩
      rw [Record.isArmed_aligned (Record.timed_of_aligned htimed)]
    · next hp =>
      have hmem : (p.1, p.2) ∈ s.engine.records := Table.mem_of_look hlook
      refine hother p hmem fun hn => hp ?_
      have hnamed := (hparties n e he p hmem).1 hn
      rw [hparty] at hnamed
      exact (Option.some.inj hnamed).symm

/-! ## The law after a step -/

/-- The records whose party is on a link whose state has changed are brought into line with it, the others are as before
(R146, R147). -/
theorem State.inLine_alignLink {s v : State} (hslot : v.slotLaw) (l : Link) (up : Bool)
    (hlinkUp : ∀ m, v.linkUp m = if m = l then up else s.linkUp m) (hlast : v.lastLink = s.lastLink)
    (hlines : ∀ p ∈ v.engine.records, s.inLine p.2) : ∀ p ∈ (v.alignLink l up).engine.records, (v.alignLink l up).inLine p.2 := by
  intro p hp
  have hslot' : (v.alignLink l up).slotLaw :=
    State.alignLink_induction (P := State.slotLaw) (fun s slot up h => (s.alignHold_tables slot up).slotLaw h) hslot l up
  have hlook := (Table.mem_iff_look hslot'.1 p).1 hp
  rw [State.look_alignLink hslot.1] at hlook
  obtain ⟨r, hr, heq⟩ := Option.map_eq_some_iff.1 hlook
  obtain ⟨records, list, halign⟩ := v.alignLink_eq l up
  have hsame : (v.alignLink l up).inLine p.2 ↔ v.inLine p.2 := by rw [halign]; exact Iff.rfl
  rw [hsame, ← heq]
  split
  · next hon =>
    obtain ⟨n, hn, hlastn⟩ := (State.partyOn_iff _ _ _).1 hon
    intro m htimed hm
    rw [Record.party_aligned, hn] at hm
    cases hm
    refine ⟨l, hlastn, ?_⟩
    rw [Record.isArmed_aligned (Record.timed_of_aligned htimed), hlinkUp, if_pos rfl]
  · next hon =>
    intro m htimed hm
    obtain ⟨k, hlastm, hiff⟩ := hlines _ (Table.mem_of_look hr) m htimed hm
    rw [← hlast] at hlastm
    have hk : k ≠ l := fun hk => hon ((State.partyOn_iff _ _ _).2 ⟨m, hm, hk ▸ hlastm⟩)
    exact ⟨k, hlastm, by rw [hlinkUp, if_neg hk]; exact hiff⟩

theorem State.deadlineLaw_linkTurned {s : State} (hslot : s.slotLaw) (hs : s.deadlineLaw) (l : Link) (up : Bool)
    {f : RobotLink → RobotLink} (hup : ∀ k, (f k).up = up) :
    ((s.modPorts fun p => p.modLink l f).alignLink l up).deadlineLaw := by
  obtain ⟨hlists, hlines⟩ := s.deadlineLaw_iff.1 hs
  refine (State.deadlineLaw_iff _).2 ⟨?_,
    State.inLine_alignLink (s := s) (v := s.modPorts fun p => p.modLink l f) hslot l up (fun m => ?_) rfl hlines⟩
  · exact State.alignLink_induction (s := s.modPorts fun p => p.modLink l f) (P := fun s => Lists s.timer.list s.dueOf)
      (fun s slot up h => lists_alignHold h slot up) hlists l up
  · simp only [State.linkUp, State.modPorts, PortUnit.robotLink_modLink]
    split
    · exact hup _
    · rfl

theorem State.DeadlineChange.deadlineLaw {s t : State} (h : s.DeadlineChange t) (hs : s.DeadlinesReady) : t.deadlineLaw := by
  obtain ⟨hslot, hparties, hlaw⟩ := hs
  obtain ⟨hlists, hlines⟩ := s.deadlineLaw_iff.1 hlaw
  cases h with
  | kept _ ht => exact State.deadlineLaw_congr ht hlaw
  | rewritten _ h r r' list hrec hchange hline ht =>
    exact State.deadlineLaw_congr ht (State.deadlineLaw_rewritten hrec hchange hline hlaw)
  | opened _ slot r rest hfree huntimed ht =>
    obtain ⟨-, -, -, -, -, -, hfrees, -⟩ := hslot
    have hnone : s.engine.records.look slot = none := ((hfrees slot).1 (by rw [hfree]; simp)).2
    refine State.deadlineLaw_congr ht ((State.deadlineLaw_iff _).2 ⟨?_, fun p hp => ?_⟩)
    · rw [State.dueOf_added hnone (Record.due_of_untimed huntimed)]
      exact hlists
    · rcases Table.mem_put hp with rfl | hp
      · exact State.inLine_of_untimed huntimed
      · exact hlines p hp
  | retired _ h r hrec ht =>
    refine State.deadlineLaw_congr ht ((State.deadlineLaw_iff _).2 ⟨?_, fun p hp => hlines p (Table.mem_del hp)⟩)
    rw [State.dueOf_removed hrec]
    exact hlists.disarm h
  | withdrawn n e hrobot hparty =>
    refine (State.deadlineLaw_iff _).2 ⟨hlists, fun p hp m htimed hm => ?_⟩
    obtain ⟨l, hlast, hiff⟩ := hlines p hp m htimed hm
    have hmn : m ≠ n := by
      rintro rfl
      have := (hparties m e hrobot p hp).1 hm
      rw [hparty] at this
      cases this
    refine ⟨l, ?_, hiff⟩
    rw [← hlast]
    simp only [State.lastLink, State.robot, State.modEngine_engine, Table.look_del, if_neg hmn]
  | linkTurned l up f hup _ => exact State.deadlineLaw_linkTurned hslot hlaw l up hup
  | raised _ list hkeys ht => exact State.deadlineLaw_congr ht ((State.deadlineLaw_iff _).2 ⟨hlists.of_keys hkeys, hlines⟩)
  | millisecond _ ht => exact State.deadlineLaw_congr ht ((State.deadlineLaw_iff _).2 ⟨hlists, hlines⟩)
  | cleared _ ht => exact State.deadlineLaw_congr ht deadlineLaw_reset

theorem step_deadlineLaw {s t : State} (hs : s.DeadlinesReady) (hstep : step s = .next t) : t.deadlineLaw :=
  step_establishes (P := State.DeadlinesReady) (Q := State.deadlineLaw) (fun _ _ hq hu => hu.quiet hq)
    (fun _ _ l _ he hu => hu.linkUpdate he l) (fun _ _ hc hu => hc.deadlines.deadlineLaw hu)
    (fun _ _ hq => State.deadlineLaw_congr hq.side.deadlineView) hstep hs

end Sys2Proof.Machine
end

section
/-! SUPPORT. The order of the deadline list after every step. -/

namespace Sys2Proof.Machine

/-! ## Instants around the clock -/

/-- How far an entry's instant is ahead of the clock, negative when it has been reached. -/
def Deadline.offset (clock : Word) (e : Deadline) : Int := (e.instant - clock).toInt

/-- An instant within the longest window ahead of the clock, or reached less than 2^30 milliseconds ago. -/
def Deadline.Near (clock : Word) (e : Deadline) : Prop := -(2 ^ 30) < e.offset clock ∧ e.offset clock ≤ 63750

/-- Near the clock, instants compare as their offsets do: no difference of two of them wraps. -/
theorem Deadline.instant_sub {clock : Word} {x y : Deadline} (hx : x.Near clock) (hy : y.Near clock) :
    (y.instant - x.instant).toInt = y.offset clock - x.offset clock := by
  obtain ⟨hx₁, hx₂⟩ := hx
  obtain ⟨hy₁, hy₂⟩ := hy
  have hsub : y.instant - x.instant = (y.instant - clock) - (x.instant - clock) := by bv_omega
  rw [hsub, BitVec.toInt_sub]
  unfold Deadline.offset at *
  exact Int.bmod_eq_of_le (by omega) (by omega)

/-- An instant a saved time or window from now is near (R135, R147). -/
theorem Deadline.near_of_saved {clock : Word} {saved : Nat} (h : saved ≤ 63750) (x : Handle) (kind : DeadlineKind)
    (raised : Bool) : Deadline.Near clock ⟨clock + wordOf saved, x, kind, raised⟩ := by
  have hsub : clock + wordOf saved - clock = wordOf saved := by rw [BitVec.add_comm, BitVec.add_sub_cancel]
  have hint : (wordOf saved).toInt = saved := by
    rw [wordOf, BitVec.toInt_ofNat']
    exact Int.bmod_eq_of_le (by omega) (by omega)
  unfold Deadline.Near Deadline.offset
  rw [hsub, hint]
  omega

/-- The time left to a near instant is no more than the longest window. -/
theorem timeLeft_le {clock : Word} {e : Deadline} (h : e.Near clock) : timeLeft clock e.instant ≤ 63750 := by
  obtain ⟨hlow, hhigh⟩ := h
  unfold Deadline.offset at *
  rw [BitVec.toInt_eq_toNat_cond] at *
  have hneg : clock - e.instant = -(e.instant - clock) := by bv_omega
  unfold timeLeft reached
  rw [hneg]
  generalize e.instant - clock = x at *
  split
  · exact Nat.zero_le _
  · next hmsb =>
    simp only [Bool.not_eq_true', Bool.not_eq_false, BitVec.msb_eq_decide, decide_eq_true_eq, BitVec.toNat_neg] at hmsb
    have := x.isLt
    omega

/-! ## Lists in order -/

/-- In order of instant, all near the clock (R136). -/
def InOrder (clock : Word) (list : List Deadline) : Prop :=
  (list.Pairwise fun x y => x.offset clock ≤ y.offset clock) ∧ ∀ e ∈ list, e.Near clock

namespace InOrder

variable {clock : Word} {list list' : List Deadline}

/-- Near the clock, order by offset is order by signed difference. -/
theorem pairwise_iff (hnear : ∀ e ∈ list, e.Near clock) :
    (list.Pairwise fun x y => x.offset clock ≤ y.offset clock) ↔
      list.Pairwise fun x y => 0 ≤ (y.instant - x.instant).toInt :=
  List.Pairwise.iff_of_mem fun {x y} hx hy => by rw [Deadline.instant_sub (hnear x hx) (hnear y hy), Int.sub_nonneg]

theorem filter (h : InOrder clock list) (test : Deadline → Bool) : InOrder clock (list.filter test) :=
  ⟨h.1.filter test, fun e he => h.2 e (List.mem_of_mem_filter he)⟩

/-- An entry goes behind every entry whose instant is not later (R136). -/
theorem insert (h : InOrder clock list) {d : Deadline} (hd : d.Near clock) : InOrder clock (insertDeadline d list) := by
  obtain ⟨horder, hnear⟩ := h
  refine ⟨?_, fun e he => ?_⟩
  · induction list with
    | nil => exact List.pairwise_singleton _ _
    | cons e list ih =>
      obtain ⟨hfirst, hrest⟩ := List.pairwise_cons.1 horder
      obtain ⟨he, hnear⟩ := List.forall_mem_cons.1 hnear
      unfold insertDeadline
      rw [BitVec.msb_eq_toInt, Deadline.instant_sub he hd]
      split
      · next hlt =>
        simp only [decide_eq_true_eq] at hlt
        refine List.pairwise_cons.2 ⟨List.forall_mem_cons.2 ⟨by omega, fun x hx => ?_⟩, horder⟩
        have := hfirst x hx
        omega
      · next hlt =>
        simp only [decide_eq_true_eq] at hlt
        refine List.pairwise_cons.2 ⟨fun x hx => ?_, ih hrest hnear⟩
        rcases List.mem_cons.1 ((Lists.insertDeadline_perm d list).mem_iff.1 hx) with rfl | hx
        · omega
        · exact hfirst x hx
  · rcases List.mem_cons.1 ((Lists.insertDeadline_perm d list).mem_iff.1 he) with rfl | he
    · exact hd
    · exact hnear e he

/-- Whether entries were raised does not matter. -/
theorem of_keys (h : InOrder clock list) (hkeys : list'.map Deadline.key = list.map Deadline.key) : InOrder clock list' := by
  have hinstants : list'.map (·.instant) = list.map (·.instant) := by
    have hmap := congrArg (List.map fun x : Word × Handle × DeadlineKind => x.1) hkeys
    rw [List.map_map, List.map_map] at hmap
    exact hmap
  have hiff : ∀ l : List Deadline, InOrder clock l ↔
      (l.map (·.instant)).Pairwise (fun x y => (x - clock).toInt ≤ (y - clock).toInt) ∧
        ∀ x ∈ l.map (·.instant), -(2 ^ 30) < (x - clock).toInt ∧ (x - clock).toInt ≤ 63750 := fun l => by
    rw [List.pairwise_map, List.forall_mem_map]
    exact Iff.rfl
  rw [hiff, hinstants, ← hiff]
  exact h

end InOrder

/-! ## Before and after a step's change -/

/-- A saved time is no longer than the longest window (R137). -/
def Record.HeldWithin (r : Record) : Prop := ∀ saved, r.custody.timing = some (.held saved) → saved ≤ 63750

theorem Record.heldWithin_of_timing {r : Record} {timing : Option Timing} (h : r.custody.timing = timing)
    (hne : ∀ saved, timing ≠ some (.held saved)) : r.HeldWithin := fun saved hs => absurd (h ▸ hs) (hne saved)

/-- What the order of the deadline list needs before a step's change. -/
structure State.OrderReady (s : State) : Prop where
  lists : Lists s.timer.list s.dueOf
  order : InOrder s.timer.clock s.timer.list
  held : ∀ p ∈ s.engine.records, p.2.HeldWithin

theorem State.OrderReady.congr {s t : State} (h : t.deadlineView = s.deadlineView) (hs : s.OrderReady) : t.OrderReady := by
  have hrecords : t.engine.records = s.engine.records := congrArg DeadlineView.records h
  have htimer : t.timer = s.timer := congrArg DeadlineView.timer h
  exact ⟨by rw [htimer, State.dueOf_congr h]; exact hs.lists, by rw [htimer]; exact hs.order, by rw [hrecords]; exact hs.held⟩

theorem State.OrderReady.deadlineOrder {s : State} (hs : s.OrderReady) : s.deadlineOrder :=
  ⟨(InOrder.pairwise_iff hs.order.2).1 hs.order.1, fun e he => (hs.order.2 e he).2, hs.held⟩

theorem State.orderReady_of {s : State} (hlaw : s.deadlineLaw) (horder : s.deadlineOrder) (htimely : s.timely) :
    s.OrderReady := by
  obtain ⟨hpair, hahead, hheld⟩ := horder
  have hnear : ∀ e ∈ s.timer.list, e.Near s.timer.clock := fun e he => ⟨htimely e he, hahead e he⟩
  exact ⟨(s.deadlineLaw_iff.1 hlaw).1, ⟨(InOrder.pairwise_iff hnear).2 hpair, hnear⟩, hheld⟩

/-- A change of one record's timing keeps the list in order and saved times within the longest window. -/
theorem State.TimingChange.inOrder {s : State} {h : Handle} {r r' : Record} {list : List Deadline}
    (hchange : s.TimingChange h r r' list) (hrec : s.recordOf h = some r) (hs : s.OrderReady) (hw : s.WindowsInRange) :
    InOrder s.timer.clock list ∧ r'.HeldWithin := by
  have hr : r.HeldWithin := hs.held _ (Table.mem_of_look (State.look_of_recordOf hrec).1)
  cases hchange with
  | kept _ htiming => exact ⟨hs.order, fun saved hsaved => hr saved (htiming ▸ hsaved)⟩
  | ended _ huntimed => exact ⟨hs.order.filter _, Record.heldWithin_of_timing huntimed nofun⟩
  | started _ l window _ htiming hwindow =>
    have hsaved : window * 250 ≤ 63750 := by have := hwindow hw; omega
    unfold State.startedTiming at htiming
    unfold State.startedList
    split at htiming
    · next hup =>
      rw [if_pos hup]
      exact ⟨hs.order.insert (Deadline.near_of_saved hsaved _ _ _), Record.heldWithin_of_timing htiming nofun⟩
    · next hup =>
      rw [if_neg hup]
      refine ⟨hs.order, fun saved hheld => ?_⟩
      rw [htiming] at hheld
      cases hheld
      exact hsaved
  | armed saved htiming =>
    exact ⟨hs.order.insert (Deadline.near_of_saved (hr saved htiming) _ _ _),
      Record.heldWithin_of_timing (Record.timing_timed (by rw [htiming]; rfl) _) nofun⟩
  | held d htiming =>
    refine ⟨hs.order.filter _, fun saved hheld => ?_⟩
    rw [Record.timing_timed (by rw [htiming]; rfl)] at hheld
    cases hheld
    have hdue : s.dueOf h = some (d, r.deadlineKind) := (s.dueOf_eq_some _ _ _).2 ⟨r, hrec, htiming, rfl⟩
    obtain ⟨raised, hmem⟩ := (mem_keys_iff _ _ _ _).1 ((hs.lists.2 h d r.deadlineKind).2 hdue)
    exact timeLeft_le (e := ⟨d, h, r.deadlineKind, raised⟩) (hs.order.2 _ hmem)

end Sys2Proof.Machine
end

section
/-! The law and the order of the deadline list after every step. -/

namespace Sys2Proof.Machine

/-! ## The order after a step -/

/-- One live record's timing is changed. -/
theorem State.OrderReady.rewritten {s : State} {h : Handle} {r r' : Record} {list : List Deadline} (hs : s.OrderReady)
    (hw : s.WindowsInRange) (hrec : s.recordOf h = some r) (hchange : s.TimingChange h r r' list) :
    (s.rewritten h.slot r' list s.plans).OrderReady := by
  obtain ⟨horder, hheld⟩ := hchange.inOrder hrec hs hw
  refine ⟨?_, horder, fun p hp => ?_⟩
  · rw [State.dueOf_rewritten hrec]
    exact hchange.lists hrec hs.lists
  · rcases Table.mem_put hp with rfl | hp
    · exact hheld
    · exact hs.held p hp

theorem State.OrderReady.alignHold {s : State} (hs : s.OrderReady) (hw : s.WindowsInRange) (slot : Nat) (up : Bool) :
    (s.alignHold slot up).OrderReady := by
  rcases s.alignHold_timing slot up with h | ⟨r, r', list, hlook, hchange, h⟩
  · rw [h]; exact hs
  · rw [h]; exact hs.rewritten hw ((s.recordOf_handleOf slot).trans hlook) hchange

/-- A millisecond on, the instants stand to one another as before, each one nearer. -/
theorem State.deadlineOrder_millisecond {s : State} (hs : s.OrderReady) :
    (s.modTimer fun x => { x with clock := x.clock + 1 }).deadlineOrder := by
  obtain ⟨hpair, -, hheld⟩ := hs.deadlineOrder
  refine ⟨hpair, fun e he => ?_, hheld⟩
  obtain ⟨hlow, hhigh⟩ := hs.order.2 e he
  have hsub : e.instant - (s.timer.clock + 1) = (e.instant - s.timer.clock) - 1 := by bv_omega
  have hone : (1 : Word).toInt = 1 := by decide
  show (e.instant - (s.timer.clock + 1)).toInt ≤ 63750
  rw [hsub, BitVec.toInt_sub, hone]
  unfold Deadline.offset at hlow hhigh
  rw [Int.bmod_eq_of_le (by omega) (by omega)]
  omega

theorem State.deadlineOrder_congr {s t : State} (h : t.deadlineView = s.deadlineView) (hs : s.deadlineOrder) :
    t.deadlineOrder := by
  have hrecords : t.engine.records = s.engine.records := congrArg DeadlineView.records h
  have htimer : t.timer = s.timer := congrArg DeadlineView.timer h
  simpa only [State.deadlineOrder, hrecords, htimer] using hs

theorem State.DeadlineChange.deadlineOrder {s t : State} (h : s.DeadlineChange t) (hs : s.OrderReady)
    (hw : s.WindowsInRange) : t.deadlineOrder := by
  cases h with
  | kept _ ht => exact (hs.congr ht).deadlineOrder
  | rewritten _ h r r' list hrec hchange _ ht => exact ((hs.rewritten hw hrec hchange).congr ht).deadlineOrder
  | opened _ slot r rest _ huntimed ht =>
    obtain ⟨hpair, hahead, hheld⟩ := hs.deadlineOrder
    refine State.deadlineOrder_congr ht ⟨hpair, hahead, fun p hp => ?_⟩
    rcases Table.mem_put hp with rfl | hp
    · exact Record.heldWithin_of_timing huntimed nofun
    · exact hheld p hp
  | retired _ h r _ ht =>
    have horder := hs.order.filter fun e => e.handle ≠ h
    exact State.deadlineOrder_congr ht ⟨(InOrder.pairwise_iff horder.2).1 horder.1, fun e he => (horder.2 e he).2,
      fun p hp => hs.held p (Table.mem_del hp)⟩
  | withdrawn => exact hs.deadlineOrder
  | linkTurned l up f _ hwindows =>
    have hready : ∀ (s : State) slot up, s.OrderReady ∧ s.WindowsInRange →
        (s.alignHold slot up).OrderReady ∧ (s.alignHold slot up).WindowsInRange := fun s slot up ⟨hs, hw⟩ =>
      ⟨hs.alignHold hw slot up, (State.RangesKept.alignHold s slot up).windows hw⟩
    have hturned : (s.modPorts fun p => p.modLink l f).WindowsInRange := fun m => by
      simp only [State.modPorts, PortUnit.robotLink_modLink]
      split
      · rw [(hwindows _).1, (hwindows _).2]
        exact hw m
      · exact hw m
    have hstart : (s.modPorts fun p => p.modLink l f).OrderReady := ⟨hs.lists, hs.order, hs.held⟩
    exact (State.alignLink_induction (P := fun s => s.OrderReady ∧ s.WindowsInRange) hready ⟨hstart, hturned⟩ l
      up).1.deadlineOrder
  | raised _ list hkeys ht =>
    have horder := hs.order.of_keys hkeys
    exact State.deadlineOrder_congr ht ⟨(InOrder.pairwise_iff horder.2).1 horder.1, fun e he => (horder.2 e he).2, hs.held⟩
  | millisecond _ ht => exact State.deadlineOrder_congr ht (State.deadlineOrder_millisecond hs)
  | cleared _ ht =>
    obtain ⟨-, -, -, hreset, -⟩ := resetMeetsLaws
    exact State.deadlineOrder_congr ht hreset

theorem State.OrderReady.linkUpdate {s : State} (hs : s.OrderReady) (hw : s.WindowsInRange) (n : Nat) (l : Link) (e : Robot) :
    (s.linkUpdate n l e).OrderReady := by
  have hheard : (s.heard n l e).OrderReady := ⟨hs.lists, hs.order, hs.held⟩
  cases hparty : e.party with
  | none => rw [State.linkUpdate_of_none hparty]; exact hheard
  | some named =>
    obtain ⟨h, role⟩ := named
    rw [State.linkUpdate_of_party hparty]
    exact hheard.alignHold hw _ _

theorem step_deadlineOrder {s t : State} (hs : s.OrderReady) (hw : s.WindowsInRange) (hstep : step s = .next t) :
    t.deadlineOrder :=
  step_establishes (P := fun s => s.OrderReady ∧ s.WindowsInRange) (Q := State.deadlineOrder)
    (fun _ _ hq ⟨hu, hw⟩ => ⟨hu.congr hq.side.deadlineView, hq.ranges.windows hw⟩)
    (fun u n l e _ ⟨hu, hw⟩ => ⟨hu.linkUpdate hw n l e, (State.RangesKept.linkUpdate u n l e).windows hw⟩)
    (fun _ _ hc ⟨hu, hw⟩ => hc.deadlines.deadlineOrder hu hw)
    (fun _ _ hq => State.deadlineOrder_congr hq.side.deadlineView) hstep ⟨hs, hw⟩

/-- The laws keep the windows in range. -/
theorem State.windowsInRange_of_boundsLaw {s : State} (h : s.boundsLaw) : s.WindowsInRange := by
  obtain ⟨-, -, -, -, ⟨-, -, -, hbookA, -, hclaimA, -⟩, ⟨-, -, -, hbookB, -, hclaimB, -⟩, -⟩ := h
  intro l
  cases l
  · exact ⟨hbookA, hclaimA⟩
  · exact ⟨hbookB, hclaimB⟩

/-- Settles O35. The list is kept as the list of what is due, one change of a record's timing after the other; its order, with
every instant near the clock, so that signed differences do not wrap. -/
theorem stepKeepsDeadlineLaw : Obligations.StepKeepsDeadlineLaw := by
  intro s t hlaws hstep
  obtain ⟨hslot, -, -, -, hparty, -, -, hdeadline, -, hbounds⟩ := hlaws
  refine ⟨step_deadlineLaw ⟨hslot, State.partiesNamed_of_laws hslot.1 hparty, hdeadline⟩ hstep, fun horder htimely => ?_⟩
  exact step_deadlineOrder (State.orderReady_of hdeadline horder htimely) (State.windowsInRange_of_boundsLaw hbounds) hstep

end Sys2Proof.Machine
end

section
/-! SUPPORT. A state that meets every law and from which a step breaks the law of the cells. -/

namespace Sys2Proof.Machine

/-! ## A state outside the eight groups -/

/-- A record STAGED on cell 210 with receiver mask 4. -/
def strayedBin (bin : Nat) (seq : Word) : Record :=
  ⟨bin, .frozen, 30, 1, 5, 2, none, 0, 2, 0, 12000, false, false, false, false, 0, .staged ⟨12, 210, seq, 4, none⟩ none⟩

/-- Two bins stand on cell 210, which checks no custody. Robot 40 is of group 9, a queue of group 9 lists the lower bin, and
robot 40's SEEK waits. -/
def strayed : State :=
  { State.reset with
    pending := [.seek .a ⟨0, 0x107, 40⟩]
    engine :=
      { Engine.reset with
        mode := .run
        records := [(0, strayedBin 6100 0), (1, strayedBin 6101 1)]
        freeSlots := List.range' 2 2046
        binIndex := [(6100, 0), (6101, 1)]
        stageSeq := 2
        cells := [(210, ⟨2, 1, 2, 2, 6, .off, false, 16, .opened, 0, [⟨0, 0⟩, ⟨1, 0⟩], 0⟩)]
        roster := [(40, ⟨false, 9, none, none, 0⟩)] }
    pickup := [(2, [⟨⟨1, 0⟩, 1, 1⟩]), (9, [⟨⟨0, 0⟩, 1, 0⟩])]
    dwell := { DwellUnit.reset with timer := some 4000 } }

theorem strayed_look (n : Nat) (r : Record) :
    strayed.engine.records.look n = some r ↔ n = 0 ∧ r = strayedBin 6100 0 ∨ n = 1 ∧ r = strayedBin 6101 1 := by
  simp only [strayed, Table.look]
  grind

theorem strayed_recordOf (h : Handle) (r : Record) :
    strayed.recordOf h = some r ↔ h = ⟨0, 0⟩ ∧ r = strayedBin 6100 0 ∨ h = ⟨1, 0⟩ ∧ r = strayedBin 6101 1 := by
  obtain ⟨slot, gen⟩ := h
  have hgen : strayed.generation slot = 0 := rfl
  have hlook := strayed_look slot r
  simp only [State.recordOf, hgen, Handle.mk.injEq]
  grind

/-- What holds of a named record holds of one of the two. -/
theorem strayed_named (h : Handle) (P : Record → Prop) :
    (∃ r, strayed.recordOf h = some r ∧ P r) ↔ h = ⟨0, 0⟩ ∧ P (strayedBin 6100 0) ∨ h = ⟨1, 0⟩ ∧ P (strayedBin 6101 1) := by
  simp only [strayed_recordOf]
  grind

theorem strayed_slotLaw : strayed.slotLaw := by
  have hbins : ∀ b n, strayed.engine.binIndex.look b = some n ↔ b = 6100 ∧ n = 0 ∨ b = 6101 ∧ n = 1 := fun b n => by
    simp only [strayed, Table.look]
    grind
  refine ⟨by decide, by decide, by decide, by decide, by decide, List.nodup_range', fun n => ?_, fun b n => ?_, fun b n h => ?_⟩
  · simp only [strayed, Table.look, Config.slots, List.mem_range'_1]
    grind
  · simp only [hbins, strayed_look]
    grind [strayedBin]
  · rw [hbins] at h
    omega

theorem strayed_recordLaw : strayed.recordLaw := by
  refine ⟨by unfold Record.exposureLaw Record.hopLaw; decide, by decide, by rintro (_ | _ | _) <;> decide, by decide⟩

theorem strayed_maskLaw : strayed.maskLaw :=
  ⟨by decide, by decide, by decide, by simp [strayed, strayedBin, Custody.spot]⟩

theorem strayed_partyLaw : strayed.partyLaw := by
  refine ⟨fun n e he h role => ?_, by simp [strayed, strayedBin, Custody.party]⟩
  simp only [State.robot, strayed, Table.look] at he
  rw [strayed_named]
  grind [strayedBin, Custody.partyRole]

theorem strayed_cellLaw : strayed.cellLaw := by
  refine ⟨fun n c hc => ?_, by simp [strayed, strayedBin, State.cell, Table.look, Custody.cell]⟩
  simp only [State.cell, strayed, Table.look] at hc
  split at hc
  · next hn =>
    subst hn
    cases hc
    refine ⟨by decide, fun h => ?_, fun h r hr hs => ?_, by decide, by decide, by decide, by decide⟩
    · simp only [exists_and_left]
      rw [strayed_named]
      simp [strayedBin, Custody.spot]
    · rcases (strayed_recordOf h r).1 hr with ⟨-, rfl⟩ | ⟨-, rfl⟩ <;> cases hs
  · cases hc

/-- Of the queues that the law speaks of, only that of group 2 has a member: the upper bin. -/
theorem strayed_queueOf {g : Nat} (hg : g < 8) : strayed.queueOf g = if g = 2 then [⟨⟨1, 0⟩, 1, 1⟩] else [] := by
  revert g
  decide

theorem strayed_queueLaw : strayed.queueLaw := by
  intro g hg
  have hmask : (4#8).getLsbD g = decide (g = 2) := by revert g; decide
  have htop : strayed.cellTop 210 = some ⟨1, 0⟩ := rfl
  rw [strayed_queueOf hg]
  simp only [exists_and_left]
  by_cases hg2 : g = 2
  · subst hg2
    refine ⟨by decide, by decide, fun e => ?_⟩
    rw [strayed_named]
    obtain ⟨h, priority, seq⟩ := e
    simp [strayedBin, htop]
    grind
  · rw [if_neg hg2]
    refine ⟨List.nodup_nil, List.Pairwise.nil, fun e => ?_⟩
    rw [strayed_named]
    simp [strayedBin, hmask, hg2]

theorem strayed_deadlineLaw : strayed.deadlineLaw := by
  refine ⟨by decide, fun h d kind => ?_, by simp [strayed, strayedBin, Custody.timing]⟩
  rw [strayed_named]
  simp [strayed, State.reset, strayedBin, Custody.timing]

theorem strayed_boundsLaw : strayed.boundsLaw := by
  obtain ⟨-, -, -, -, hlinkA, hlinkB, hzones, hqueues, hnotices⟩ := boundsLaw_reset
  exact ⟨by decide, by decide, by decide, by decide, hlinkA, hlinkB, hzones, hqueues, hnotices⟩

theorem strayed_laws : strayed.laws :=
  ⟨strayed_slotLaw, strayed_recordLaw, ⟨nofun, by simp [strayed, strayedBin]⟩, strayed_maskLaw, strayed_partyLaw,
    strayed_cellLaw, strayed_queueLaw, strayed_deadlineLaw,
    ⟨by decide, by decide, by decide, by decide, by decide, fun _ h => by cases h⟩, strayed_boundsLaw⟩

/-- Robot 40 is granted the lower bin, which is CLAIMED then with the other on top of it. -/
theorem strayed_step : ∃ t c r, step strayed = .next t ∧ t.cell 210 = some c ∧ t.recordOf ⟨0, 0⟩ = some r ∧
    r.custody.state = .claimed ∧ ⟨0, 0⟩ ∈ c.stack ∧ c.stack.getLast? = some ⟨1, 0⟩ :=
  ⟨_, _, _, rfl, rfl, rfl, rfl, List.mem_cons_self, rfl⟩

/-- Refutes O16: the laws bound no robot's group and speak of the pickup queues of groups 0 to 7 alone, so that a SEEK may walk a
queue that lists a buried bin. ROBOT-ENROL refuses groups above 7 (R86), but no law says so. -/
theorem not_stepKeepsCellLaw : ¬ Obligations.StepKeepsCellLaw := by
  intro hkeeps
  obtain ⟨t, c, r, hstep, hcell, hrec, hclaimed, hmem, htop⟩ := strayed_step
  obtain ⟨hkept, -⟩ := hkeeps strayed t strayed_laws hstep
  obtain ⟨-, -, honTop, -⟩ := hkept 210 c hcell
  rw [honTop ⟨0, 0⟩ r hrec hclaimed hmem] at htop
  cases htop

end Sys2Proof.Machine
end

section
/-! SUPPORT. TAKEUP written out block by block. -/

namespace Sys2Proof.Machine

/-! ## What an accepted TAKEUP writes -/

/-- Writing the record of one handle leaves what every other handle names. -/
theorem State.recordOf_putRecord_ne {s : State} {h x : Handle} {r r' : Record} (hrec : s.recordOf h = some r) (hx : x ≠ h) :
    (s.putRecord h.slot r').recordOf x = s.recordOf x := by
  obtain ⟨-, hgen⟩ := State.look_of_recordOf hrec
  unfold State.recordOf
  rw [show (s.putRecord h.slot r').generation x.slot = s.generation x.slot from rfl]
  split
  · next hxgen =>
    have hslot : x.slot ≠ h.slot := fun hslot => hx (State.handle_unique hxgen hgen hslot)
    exact Table.look_put_ne _ _ hslot
  · rfl

/-- The bin that comes to lie on top when a handle is taken off a stack is another one. -/
theorem Cell.top_without_ne {c : Cell} {h b : Handle} (hb : (c.without h).stack.getLast? = some b) : b ≠ h := by
  have hmem := List.mem_of_getLast? hb
  simpa using (List.mem_filter.1 hmem).2

/-- The bin that comes to lie on top of a cell, with its record, when a handle is taken off the stack. -/
def State.topBeneath (s : State) (c : Cell) (h : Handle) : Option (Handle × Record) :=
  (c.without h).stack.getLast?.bind fun b => (s.recordOf b).map fun rb => (b, rb)

/-- Writing the record of the handle taken off does not change which bin comes to lie on top, nor its record. -/
theorem State.topBeneath_putRecord {s : State} {h : Handle} {r : Record} (hrec : s.recordOf h = some r) (r' : Record)
    (c : Cell) : (s.putRecord h.slot r').topBeneath c h = s.topBeneath c h := by
  unfold State.topBeneath
  cases hb : (c.without h).stack.getLast? with
  | none => rfl
  | some b => rw [Option.bind_some, Option.bind_some, State.recordOf_putRecord_ne hrec (Cell.top_without_ne hb)]

/-- An accepted TAKEUP before the bin leaves the stack: no deadline, the robot is carrier, the record is CARRIED (R74). -/
def State.carriedOff (s : State) (h : Handle) (r : Record) (n : Nat) (e : Robot) : State :=
  ((s.disarm h).putRobot n { e with party := some (h, .carrier), misses := 0 }).putRecord h.slot (takenUp r n)

/-- The blocks that an accepted TAKEUP writes before the bin beneath enters its queues. -/
def State.lifted (s : State) (h : Handle) (r : Record) (spot : Spot) (n : Nat) (e : Robot) (c : Cell) : State :=
  { s with
    engine :=
      { s.engine with
        records := s.engine.records.put h.slot (takenUp r n)
        cells := s.engine.cells.put spot.cell (c.without h)
        roster := s.engine.roster.put n { e with party := some (h, .carrier), misses := 0 } }
    timer := { s.timer with list := s.timer.list.filter fun d => d.handle ≠ h } }

section
variable {s : State} {h : Handle} {r : Record} {spot : Spot} {n : Nat} {e : Robot} {c : Cell}

theorem State.takeupRecord_of_robot (hrobot : s.robot n = some e) (hcell : s.cell spot.cell = some c) :
    s.takeupRecord h r spot n =
      (((s.carriedOff h r n e).unstack spot.cell h).countEvent .lifted c.zone 0).closeCheck spot.cell := by
  have hzone : s.cellZone spot.cell = c.zone := by simp only [State.cellZone, hcell, Option.map_some, Option.getD_some]
  have hparty : (s.disarm h).modRobot n (fun e => { e with party := some (h, .carrier), misses := 0 }) =
      (s.disarm h).putRobot n { e with party := some (h, .carrier), misses := 0 } := by
    rw [State.modRobot, show (s.disarm h).robot n = some e from hrobot]
  simp only [State.takeupRecord, hzone, hparty, State.carriedOff]

/-- The whole of what an accepted TAKEUP writes (R37, R74, R75, R102). -/
theorem State.takeupRecord_eq (hrec : s.recordOf h = some r) (hrobot : s.robot n = some e)
    (hcell : s.cell spot.cell = some c) :
    s.takeupRecord h r spot n =
      let w := s.lifted h r spot n e c
      let x := if c.stack.getLast? = some h then
          match s.topBeneath c h with
          | some (b, rb) => match rb.custody with
            | .staged under _ => w.enter b under.mask rb.priority under.seq
            | _ => w
          | none => w
        else w
      (x.countEvent .lifted c.zone 0).closeCheck spot.cell := by
  have hbeneath : (s.carriedOff h r n e).topBeneath c h = s.topBeneath c h :=
    State.topBeneath_putRecord (s := (s.disarm h).putRobot n _) hrec _ c
  have hunstack := State.unstack_of_cell (s.carriedOff h r n e) spot.cell h (c := c) hcell
  rw [State.topBeneath] at hbeneath
  rw [hbeneath] at hunstack
  rw [State.takeupRecord_of_robot hrobot hcell, hunstack]
  rfl

end

/-- TAKEUP of a record that is CLAIMED by the robot (R73 to R75). -/
theorem takeupRequest_eq {s : State} {handle : Half} {h : Handle} {r : Record} {n : Nat} {spot : Spot} {timing : Timing}
    (hresolve : s.resolve handle = some (h, r)) (hcustody : r.custody = .claimed spot n timing) :
    takeupRequest handle n s =
      let t := s.takeupRecord h r spot n
      (t, accept (be16 h.wire ++
        [byteOf (r.hops + 1), byteOf r.hopLimit, smallField ((takenUp r n).route.map (·.leg)),
          smallField (t.nextGroup (takenUp r n))] ++ be16 (halfOf r.remaining))) := by
  have hpasses : r.custody.state = .claimed ∧ r.custody.party = some n := by rw [hcustody]; exact ⟨rfl, rfl⟩
  unfold takeupRequest
  rw [withParty_passes hresolve hpasses]
  simp only [hcustody]
  rfl

/-- An accepted TAKEUP leaves the plans. -/
theorem State.takeupRecord_plans (s : State) (h : Handle) (r : Record) (spot : Spot) (n : Nat) :
    (s.takeupRecord h r spot n).plans = s.plans := (s.side_takeupRecord h r spot n).plans

/-- The next cell group after an accepted TAKEUP, with 255 for none (R75, R124). -/
theorem smallField_nextGroup {s t : State} (hplans : t.plans = s.plans) (r : Record) :
    smallField (t.nextGroup r) = if r.hops = r.hopLimit then 255 else smallField ((r.route.bind s.legOf).map (·.group)) := by
  have hleg : t.legOf = s.legOf := by
    funext route
    simp only [State.legOf, hplans]
  unfold State.nextGroup
  rw [hleg]
  split <;> rfl

/-- Settles O28, from `State.takeupRecord_eq` and the party test, which a record CLAIMED by the robot passes. -/
theorem takeupLiftsTop : Obligations.TakeupLiftsTop := by
  intro s l hd handle f n v h r spot timing e c htakes hresolve hcustody hrobot hcell rest r1 w x t
  have hstep : v.takeupRecord h r spot n = t := State.takeupRecord_eq (State.recordOf_of_resolve hresolve) hrobot hcell
  have hplans : t.plans = v.plans := hstep ▸ v.takeupRecord_plans h r spot n
  have hown := takeupRequest_eq hresolve hcustody
  simp only [hstep, smallField_nextGroup hplans] at hown
  exact exec_robot (c := .takeup l hd handle) rfl rfl htakes hown

end Sys2Proof.Machine
end

section
/-! SUPPORT. The cell management requests: their checks in order, and the cell summaries they answer with. -/

namespace Sys2Proof.Machine

/-! ## Answers of management requests -/

/-- A management request handed over outside FLUSHING answers with what its own checks and effects give. -/
theorem exec_host {s u : State} {c : Instr} {f : Frame} {own : State → State × Answer}
    (hexec : exec c s = .next (s.serve c (hostService own))) (ht : s.hostTakes c f u) {w : State} {a : Answer}
    (how : own u = (w, a)) : exec c s = .next (w.respond f a) := by
  rw [hexec, State.serve_host ht, how]

/-! ## The summary of a cell -/

theorem cellSummary_eq {s : State} {cell : Half} {c : Option Cell} (hc : s.cell cell.toNat = c) :
    cellSummary s cell.toNat = summaryBytes cell c := by
  have hcell : halfOf cell.toNat = cell := by simp [halfOf]
  cases c <;> simp only [cellSummary, summaryBytes, hc, hcell]

/-- A request that answers with a cell's summary, the cell standing as `c` says. -/
theorem exec_withSummary {s u w : State} {c : Instr} {f : Frame} {own : State → State × Answer} {cell : Half} {r : Result}
    (hexec : exec c s = .next (s.serve c (hostService own))) (ht : s.hostTakes c f u)
    (how : own u = withSummary w cell.toNat r) {x : Option Cell} (hx : w.cell cell.toNat = x) :
    exec c s = .next (w.respond f ⟨r, [summaryBytes cell x]⟩) := by
  rw [exec_host hexec ht how, cellSummary_eq hx]

theorem State.cell_putCell_self (s : State) (n : Nat) (c : Cell) : (s.putCell n c).cell n = some c :=
  Table.look_put_self _ _ _

/-! ## The close check -/

theorem State.closeCheck_of_closes {s : State} {n : Nat} {c : Cell} (hcell : s.cell n = some c) (hc : c.closes) :
    s.closeCheck n = (s.putCell n { c with state := .closed }).countEvent .closed c.zone 0 := by
  simp only [State.closeCheck, hcell]
  exact if_pos hc

theorem State.closeCheck_of_not_closes {s : State} {n : Nat} {c : Cell} (hcell : s.cell n = some c) (hc : ¬ c.closes) :
    s.closeCheck n = s := by
  simp only [State.closeCheck, hcell]
  exact if_neg hc

/-- A cell put in DRAINING and closed at once when it is empty and admits none (R41, R46). -/
theorem State.closeCheck_drained (s : State) (n : Nat) (c : Cell) (admissions : Nat) :
    (s.putCell n { c with state := .draining, admissions := admissions }).closeCheck n =
      if admissions = 0 ∧ c.stack = [] ∧ c.reserved = 0 then
        (s.putCell n { c with state := .closed, admissions := admissions }).countEvent .closed c.zone 0
      else s.putCell n { c with state := .draining, admissions := admissions } := by
  have hcell := s.cell_putCell_self n { c with state := .draining, admissions := admissions }
  split
  · next h =>
    rw [State.closeCheck_of_closes hcell ⟨rfl, h⟩]
    simp only [State.putCell, State.modEngine_modEngine, Table.put_put]
  · next h => exact State.closeCheck_of_not_closes hcell fun hc => h hc.2

/-! ## CELL-DELETE, CELL-REOPEN and CELL-DRAIN -/

/-- How these three requests begin: a field out of range, then a cell that is not defined (R45 to R47). -/
def onCell (bad : Prop) [Decidable bad] (n : Nat) (s : State) (act : Cell → State × Answer) : State × Answer :=
  if bad then (s, refuse .badField)
  else match s.cell n with
    | none => withSummary s n .cellUnknown
    | some c => act c

/-- What follows when a request begins so: the two refusals, and what it does with a defined cell. -/
theorem exec_onCell {s u : State} {c : Instr} {f : Frame} {own : State → State × Answer} {cell : Half} {bad : Prop}
    [Decidable bad] {act : Cell → State × Answer} {does : Cell → Prop}
    (hexec : exec c s = .next (s.serve c (hostService own))) (ht : s.hostTakes c f u)
    (hown : own u = onCell bad cell.toNat u act)
    (hdoes : ∀ x, u.cell cell.toNat = some x → own u = act x → does x) :
    if bad then exec c s = .next (u.respond f ⟨.badField, [[]]⟩)
    else
      (u.cell cell.toNat = none → exec c s = .next (u.respond f ⟨.cellUnknown, [summaryBytes cell none]⟩)) ∧
      ∀ x, u.cell cell.toNat = some x → does x := by
  split
  · next hbad => exact exec_host hexec ht (hown.trans (if_pos hbad))
  · next hbad =>
    have hrest := hown.trans (if_neg hbad)
    refine ⟨fun hx => exec_withSummary hexec ht ?_ hx, fun x hx => hdoes x hx ?_⟩
    · simp only [hrest, hx]
    · simp only [hrest, hx]

/-- Settles O33. All three begin with `onCell`; a defined cell is then refused by its occupancy or state, or written. -/
theorem cellDeleteReopenDrain : Obligations.CellDeleteReopenDrain := by
  refine ⟨fun s hd cell f u => ⟨fun htakes => ?delete, fun htakes => ?reopen⟩, fun s hd cell allowed f u htakes => ?drain⟩
  case delete =>
    refine exec_onCell (own := cellDeleteRequest cell) rfl htakes rfl fun c hc hown => ?_
    split
    · next hbusy => exact exec_withSummary rfl htakes (hown.trans (if_pos hbusy)) hc
    · next hbusy =>
      exact exec_withSummary rfl htakes (hown.trans (if_neg hbusy)) ((Table.look_del _ _ _).trans (if_pos rfl))
  case reopen =>
    refine exec_onCell (own := cellReopenRequest cell) rfl htakes rfl fun c hc hown => ?_
    split
    · next hopen => exact exec_withSummary rfl htakes (hown.trans (if_pos hopen)) hc
    · next hopen => exact exec_withSummary rfl htakes (hown.trans (if_neg hopen)) (u.cell_putCell_self _ _)
  case drain =>
    refine exec_onCell (own := cellDrainRequest cell allowed) rfl htakes rfl fun c hc hown => ?_
    split
    · next hclosed => exact exec_withSummary rfl htakes (hown.trans (if_pos hclosed)) hc
    · next hclosed =>
      rw [if_neg hclosed, State.closeCheck_drained] at hown
      have hzero : allowed.toNat = 0 ↔ allowed = 0 := by bv_omega
      simp only [hzero] at hown
      split
      · next hempty =>
        rw [if_pos hempty] at hown
        exact exec_withSummary rfl htakes hown (u.cell_putCell_self _ _)
      · next hempty =>
        rw [if_neg hempty] at hown
        exact exec_withSummary rfl htakes hown (u.cell_putCell_self _ _)

/-! ## CELL-WRITE -/

/-- A byte names a check mode exactly when it is 0 to 3 (R200). -/
theorem CheckMode.ofByte_eq_none_iff (b : Byte) : CheckMode.ofByte b = none ↔ 3 < b.toNat := by
  unfold CheckMode.ofByte
  split_ifs with h0 h1 h2 h3
  · simp [h0]
  · simp [h1]
  · simp [h2]
  · simp [h3]
  · simp only [true_iff]
    bv_omega

theorem CheckMode.ofByte_code (mode : CheckMode) : CheckMode.ofByte mode.code = some mode := by
  cases mode <;> rfl

/-- The first check of CELL-WRITE by its negation: some field is out of its range (R43). -/
theorem cellFieldsFit_eq_false_iff (cell : Half) (b : CellBytes) :
    cellFieldsFit cell b = false ↔ 1023 < cell.toNat ∨ 127 < b.column.toNat ∨ 127 < b.row.toNat ∨ 15 < b.zone.toNat ∨
      b.capacity = 0 ∨ 4 < b.capacity.toNat ∨ b.accept = 0 := by
  have hlow : b.capacity = 0 ↔ b.capacity.toNat = 0 := by bv_omega
  rw [← Bool.not_eq_true, hlow]
  simp only [cellFieldsFit, Bool.and_eq_true, decide_eq_true_eq, bne_iff_ne, ne_eq, not_and_or, not_not, not_le,
    Nat.lt_one_iff, or_assoc]

/-- The second check of CELL-WRITE: another defined cell has the position (R28, R43). -/
theorem State.positionTaken_iff {s : State} (hwf : s.engine.cells.wf = true) (n column row : Nat) :
    s.positionTaken n column row = true ↔ ∃ m c, m ≠ n ∧ s.cell m = some c ∧ c.column = column ∧ c.row = row := by
  simp only [State.positionTaken, List.any_eq_true, Bool.and_eq_true, bne_iff_ne, beq_iff_eq, Prod.exists, State.cell,
    Table.look_eq_some_iff _ hwf]
  grind

/-- The third check of CELL-WRITE: an occupied cell keeps its zone and position, and room for what it holds (R43). -/
theorem occupiedRefuses_iff (c : Cell) (b : CellBytes) :
    occupiedRefuses c b = true ↔ 0 < c.stack.length + c.reserved ∧
      ¬ (c.zone = b.zone.toNat ∧ c.column = b.column.toNat ∧ c.row = b.row.toNat ∧
        c.stack.length + c.reserved ≤ b.capacity.toNat) := by
  simp only [occupiedRefuses, Cell.occupancy, Bool.and_eq_true, Bool.or_eq_true, bne_iff_ne]
  grind

/-- What CELL-WRITE does when its fields are in range. -/
theorem cellWriteRequest_of_fit {s : State} {cell : Half} {b : CellBytes} {mode : CheckMode}
    (hmode : CheckMode.ofByte b.mode = some mode) (hfit : cellFieldsFit cell b = true) :
    cellWriteRequest cell b s =
      if s.positionTaken cell.toNat b.column.toNat b.row.toNat then withSummary s cell.toNat .duplicate
      else if ((s.cell cell.toNat).map fun c => occupiedRefuses c b) = some true then withSummary s cell.toNat .cellBusy
      else withSummary (s.putCell cell.toNat (writtenCell (s.cell cell.toNat) b mode)) cell.toNat .ok := by
  simp only [cellWriteRequest, hmode, hfit, Bool.not_true, Bool.false_eq_true, if_false]

/-- A field or a check mode out of range is answered BAD_FIELD. -/
theorem cellWriteRequest_of_not_fit {s : State} {cell : Half} {b : CellBytes}
    (h : cellFieldsFit cell b = false ∨ CheckMode.ofByte b.mode = none) :
    cellWriteRequest cell b s = (s, refuse .badField) := by
  unfold cellWriteRequest
  cases hmode : CheckMode.ofByte b.mode with
  | none => rfl
  | some mode =>
    have hfit : cellFieldsFit cell b = false := h.resolve_right (by rw [hmode]; exact nofun)
    simp only [hfit, Bool.not_false, if_true]

/-- Settles O32. -/
theorem cellWriteWritesEntry : Obligations.CellWriteWritesEntry := by
  intro s hd cell b f u htakes hwf n out taken held
  have hexec : exec (.cellWrite hd cell b) s = .next (s.serve _ (hostService (cellWriteRequest cell b))) := rfl
  have htaken : u.positionTaken n b.column.toNat b.row.toNat = true ↔ taken := State.positionTaken_iff hwf ..
  have hheld : ((u.cell n).map fun c => occupiedRefuses c b) = some true ↔ held := by
    simp only [Option.map_eq_some_iff, occupiedRefuses_iff, held]
  split
  · next hbad =>
    refine exec_host hexec htakes (cellWriteRequest_of_not_fit ?_)
    rw [cellFieldsFit_eq_false_iff, CheckMode.ofByte_eq_none_iff]
    simpa only [or_assoc] using hbad
  · next hgood =>
    have hfields : cellFieldsFit cell b = true ∧ CheckMode.ofByte b.mode ≠ none := by
      rw [← Bool.not_eq_false, Ne, ← not_or, cellFieldsFit_eq_false_iff, CheckMode.ofByte_eq_none_iff]
      simpa only [or_assoc] using hgood
    obtain ⟨hfit, hnamed⟩ := hfields
    obtain ⟨mode, hmode⟩ := Option.ne_none_iff_exists'.1 hnamed
    have hown := cellWriteRequest_of_fit (s := u) hmode hfit
    refine ⟨fun ht => ?_, fun ht hh => ?_, fun ht hh mode' hcode => ?_⟩
    · exact exec_withSummary hexec htakes (hown.trans (if_pos (htaken.2 ht))) rfl
    · exact exec_withSummary hexec htakes (hown.trans ((if_neg (mt htaken.1 ht)).trans (if_pos (hheld.2 hh)))) rfl
    · obtain rfl : mode = mode' := Option.some.inj (hmode.symm.trans (hcode ▸ mode'.ofByte_code))
      exact exec_withSummary hexec htakes
        (hown.trans ((if_neg (mt htaken.1 ht)).trans (if_neg (mt hheld.1 hh)))) (u.cell_putCell_self _ _)

end Sys2Proof.Machine
end

section
/-! SUPPORT. How a reply leaves, and the intake of robot requests: its refusals and its link update. -/

namespace Sys2Proof.Machine

/-! ## Replies -/

section
variable {f : Frame} {l : Link}

/-- A reply on a robot link is one frame with the request's robot field (R190, R194). -/
theorem replyFrames_link (hport : f.port = .link l) (r : Result) (body : List Byte) :
    replyFrames f ⟨r, [body]⟩ = [⟨.link l, replyKind f.kind, r.code, f.tag, f.robot, body⟩] := by
  simp only [replyFrames, hport, List.headD_cons]

theorem State.respond_link (hport : f.port = .link l) (s : State) (a : Answer) :
    s.respond f a = if s.linkUp l then s.send (replyFrames f a) else s := by
  have hlink : ¬ (f.port = .host ∧ s.engine.flush.isSome = true) := by simp [hport]
  rw [State.respond, if_neg hlink]
  simp only [State.sendReply, hport]

theorem State.respond_host (hport : f.port = .host) (s : State) (a : Answer) :
    s.respond f a =
      if s.engine.flush.isSome then s.modPorts fun p => { p with unsent := p.unsent ++ replyFrames f a }
      else s.send (replyFrames f a) := by
  simp only [State.respond, hport, true_and, State.sendReply_host hport]

end

/-- Settles O11, port by port. -/
theorem repliesLeaveByTheirPort : Obligations.RepliesLeaveByTheirPort := by
  intro s f a body
  refine ⟨fun l hport hbody => ?_, fun hport => ?_⟩
  · obtain ⟨result, segments⟩ := a
    obtain rfl : segments = [body] := hbody
    rw [State.respond_link hport, replyFrames_link hport]
    rfl
  · rw [State.respond_host hport, replyFrames, hport]
    rfl

/-! ## Requests refused by the mode or at intake -/

/-- A request that is handed over and answered at once. -/
theorem exec_answered {s u w : State} {c : Instr} {f : Frame} {run : Frame → State → Served} {a : Answer}
    (hexec : exec c s = .next (s.serve c run)) (hready : s.ready c = some (f, u)) (hrun : run f u = (w, some a)) :
    exec c s = .next (w.respond f a) := by
  rw [hexec, State.serve_ready hready, hrun]

/-- Each management request but STATUS answers BUSY in FLUSHING (R205). -/
theorem exec_hostRequest {c : Instr} {f : Frame} (hf : c.frame = some f) (hport : f.port = .host) (hkind : f.kind ≠ 0x21) :
    ∃ run : Frame → State → Served, (∀ s, exec c s = .next (s.serve c run)) ∧
      ∀ u : State, u.engine.mode = .flushing → run f u = (u, some (refuse .busy)) := by
  cases c
  case status => cases hf; exact absurd rfl hkind
  case flush => exact ⟨flushService, fun _ => rfl, fun u hmode => by simp only [flushService, hmode]⟩
  case reset => exact ⟨resetService, fun _ => rfl, fun u hmode => if_pos hmode⟩
  case declare | book | unbook | setdown | claim | seek | yieldBin | takeup | finish | queryBin | queryCell =>
    cases hf; cases hport
  case frameArrival | silenceTimerExpiry | flushRetirement | deviceReset | deadlineReached | expiryTaken |
      accrualPeriodExpiry | accrualVisit | overdueEvent | gridClockAdvance => cases hf
  all_goals exact ⟨hostService _, fun _ => rfl, fun u hmode => if_pos hmode⟩

/-- Each robot request is served by `robotService` with its own header (R49). -/
theorem exec_robotRequest {c : Instr} {f : Frame} {l : Link} (hf : c.frame = some f) (hport : f.port = .link l) :
    ∃ (hd : Hdr) (own : Nat → State → State × Answer), hd.robot = f.robot ∧
      ∀ s, exec c s = .next (s.serve c (robotService l hd own)) := by
  cases c
  case declare | book | unbook | setdown | claim | seek | yieldBin | takeup | finish | queryBin | queryCell =>
    cases hf; cases hport; exact ⟨_, _, rfl, fun _ => rfl⟩
  case frameArrival | silenceTimerExpiry | flushRetirement | deviceReset | deadlineReached | expiryTaken |
      accrualPeriodExpiry | accrualVisit | overdueEvent | gridClockAdvance => cases hf
  all_goals cases hf; cases hport

/-- Outside RUN a robot request is answered NOT_READY (R49, R205). -/
theorem robotService_notReady {l : Link} {hd : Hdr} {own : Nat → State → State × Answer} {f : Frame} {u : State}
    (hmode : u.engine.mode ≠ .run) : robotService l hd own f u = (u, some (refuse .notReady)) := by
  simp only [robotService, if_pos hmode]

/-- In RUN a robot field that names no enrolled robot is answered UNKNOWN_ROBOT (R49). -/
theorem robotService_unknownRobot {l : Link} {hd : Hdr} {own : Nat → State → State × Answer} {f : Frame} {u : State}
    (hmode : u.engine.mode = .run)
    (hrobot : hd.robot = 0 ∨ 1023 < hd.robot.toNat ∨ u.robot hd.robot.toNat = none) :
    robotService l hd own f u = (u, some (refuse .unknownRobot)) := by
  simp only [robotService, hmode, ne_eq, not_true_eq_false, if_false]
  split
  · rfl
  · next hrange =>
    have hnone : u.robot hd.robot.toNat = none := by
      rcases hrobot with hzero | hbig | hnone
      · simp [hzero] at hrange
      · omega
      · exact hnone
    simp only [hnone]

/-- Settles O9. -/
theorem modeAndIntakeRefusals : Obligations.ModeAndIntakeRefusals := by
  refine ⟨fun s c f u hready hport hkind hmode => ?_, fun s c f u l hready hport => ?_⟩
  · obtain ⟨run, hexec, hbusy⟩ := exec_hostRequest (State.ready_frame hready) hport hkind
    exact exec_answered (hexec s) hready (hbusy u hmode)
  · obtain ⟨hd, own, hrobot, hexec⟩ := exec_robotRequest (State.ready_frame hready) hport
    rw [← hrobot]
    exact ⟨fun hmode => exec_answered (hexec s) hready (robotService_notReady hmode),
      fun hmode hunknown => exec_answered (hexec s) hready (robotService_unknownRobot hmode hunknown)⟩

/-! ## The link update -/

/-- A robot request that passes intake names an enrolled robot, which is heard on the request's link (R49, R50). -/
theorem State.of_intake {u v : State} {f : Frame} {l : Link} {n : Nat} (hport : f.port = .link l)
    (hintake : u.intake f = some (n, v)) :
    n = f.robot.toNat ∧ ∃ e, u.robot n = some e ∧ v = u.linkUpdate n l e := by
  simp only [State.intake, hport] at hintake
  obtain ⟨-, hsome⟩ := Option.ite_none_right_eq_some.1 hintake
  obtain ⟨e, hrobot, hpair⟩ := Option.map_eq_some_iff.1 hsome
  cases hpair
  exact ⟨rfl, e, hrobot, rfl⟩

/-- The link update writes the robot's entry, and records and deadlines at most besides (R50). -/
theorem State.linkUpdate_eq (u : State) (n : Nat) (l : Link) (e : Robot) :
    ∃ records list, u.linkUpdate n l e =
      { u with
        engine :=
          { u.engine with
            records := records
            roster := u.engine.roster.put n { e with lastLink := some l } }
        timer := { u.timer with list := list } } := by
  obtain hparty | ⟨⟨h, role⟩, hparty⟩ := Option.eq_none_or_eq_some e.party
  · exact ⟨_, _, State.linkUpdate_of_none hparty n l⟩
  · obtain ⟨records, list, hhold⟩ := (u.heard n l e).alignHold_eq h.slot ((u.heard n l e).linkUp l)
    exact ⟨records, list, (State.linkUpdate_of_party hparty n l).trans hhold⟩

/-- The time left to an instant, by the signed difference (R50, R146). -/
theorem timeLeft_eq (clock d : Word) : timeLeft clock d = if 0 ≤ (clock - d).toInt then 0 else (d - clock).toNat := by
  have hsign : reached clock d = true ↔ 0 ≤ (clock - d).toInt := by
    rw [reached, Bool.not_eq_true', ← Bool.not_eq_true, BitVec.msb_eq_toInt, decide_eq_true_eq, not_lt]
  simp only [timeLeft, hsign]

/-- Bringing a record into line is the change of timing that a link's state asks for (R50, R146, R147). -/
theorem Record.aligned_eq_retimed (r : Record) (clock : Word) (up : Bool) :
    r.aligned clock up = r.retimed (if up then Timing.armedAt clock else Timing.heldAt clock) := by
  unfold Record.aligned Record.timed Record.retimed
  cases hcustody : r.custody with
  | carried | staged => rfl
  | booked _ _ _ _ timing | claimed _ _ timing =>
    cases timing <;> cases up <;>
      simp [← hcustody, Custody.timing, Timing.armedAt, Timing.heldAt, timeLeft_eq, wordOf]

/-- The deadline list after the record in a slot has been brought into line (R50, R137, R138). -/
theorem State.list_alignHold {s : State} {slot : Nat} {r : Record} (hlook : s.engine.records.look slot = some r)
    (up : Bool) : (s.alignHold slot up).timer.list =
      match up, r.custody.timing with
      | true, some (.held saved) =>
        insertDeadline ⟨s.timer.clock + BitVec.ofNat 32 saved, s.handleOf slot, r.deadlineKind, false⟩ s.timer.list
      | false, some (.armed _) => s.timer.list.filter fun d => d.handle ≠ s.handleOf slot
      | _, _ => s.timer.list := by
  rcases s.alignHold_cases slot up with ⟨h, hline⟩ | ⟨rfl, r', saved, hlook', htiming, h⟩ | ⟨rfl, r', d, hlook', htiming, h⟩
  · have harmed := hline r hlook
    rw [h]
    split
    · next htiming => simp [Record.isArmed, htiming] at harmed
    · next htiming => simp [Record.isArmed, htiming] at harmed
    · rfl
  all_goals
    cases hlook.symm.trans hlook'
    rw [h, htiming]
    rfl

/-- Settles O10. The robot is heard on the link; the record it is party to, if any, is brought into line. -/
theorem intakeLinkUpdate : Obligations.IntakeLinkUpdate := by
  intro u f l n v hport hintake
  obtain ⟨hn, e, hrobot, rfl⟩ := State.of_intake hport hintake
  refine ⟨e, hn, hrobot, ?_⟩
  obtain ⟨records, list, heq⟩ := u.linkUpdate_eq n l e
  refine ⟨?_, ?_, ?_, fun hparty => ?_, fun h role r hparty hlook => ?_⟩
  · rw [heq]
    exact Table.look_put_self _ _ _
  · rw [heq]
    exact fun m hm => (Table.look_put_ne _ _ hm).symm
  · rw [heq]
  · rw [State.linkUpdate_of_none hparty]
    exact ⟨rfl, rfl⟩
  · rw [State.linkUpdate_of_party hparty]
    have hheard : (u.heard n l e).engine.records.look h.slot = some r := hlook
    refine ⟨fun m hm => ?_, ?_, State.list_alignHold hheard _⟩
    · exact ((State.look_alignHold (u.heard n l e) _ _ m).trans (if_neg hm)).symm
    · rw [State.look_alignHold, if_pos rfl, hheard, Option.map_some, Record.aligned_eq_retimed]
      rfl

end Sys2Proof.Machine
end

section
/-! SUPPORT. BOOK and UNBOOK: BOOK's checks in order, and the two written out block by block. -/

namespace Sys2Proof.Machine

/-! ## BOOK's checks -/

theorem boolByte_eq (b : Bool) : boolByte b = if b then 1 else 0 := by cases b <;> rfl

theorem boolByte_not (b : Bool) : boolByte (!b) = if b then 0 else 1 := by cases b <;> rfl

theorem robotOrNone_toNat (robot : Half) : robotOrNone robot.toNat = if robot = 0 then none else some robot.toNat := by
  have hzero : robot.toNat = 0 ↔ robot = 0 := by bv_omega
  simp only [robotOrNone, hzero]

theorem State.takeRule_ports (s : State) (m : Option (Nat × Rule)) (notice : Byte → Notice) (denied : Bool) :
    (s.takeRule m notice denied).ports = s.ports := by
  obtain ⟨rules, notices, h⟩ := s.takeRule_eq m notice denied
  rw [h]

/-- Check 7 of BOOK by its negation: a planned record's leg is defined and names the cell's group (R59, R124). -/
theorem State.inLeg_eq_false_iff (s : State) (r : Record) (c : Cell) :
    s.inLeg r c = false ↔
      r.route.isSome ∧ ((r.route.bind s.legOf).map fun leg => c.groups.getLsbD leg.group) ≠ some true := by
  unfold State.inLeg
  cases r.route with
  | none => simp
  | some route => cases hleg : s.legOf route <;> simp [hleg]

/-- What BOOK does when no refusal but POLICY is left: the matched rule is taken, and the record booked unless the rule
denies it (R60 to R62, R181). -/
def bookMatched (l : Link) (h : Handle) (r : Record) (cell receiver : Half) (n : Nat) (s : State) (c : Cell) :
    State × Answer :=
  let m := s.matchRule (bookKey r c.zone)
  let denied := (m.map (·.2.deny)).getD false
  let s1 := s.takeRule m
    (fun detail => recordNotice .ruleMatch h r (some n) (some cell.toNat) c.zone detail) denied
  if denied then (s1, refuse .policy)
  else (s1.bookRecord n l h r cell.toNat (robotOrNone receiver.toNat) m,
    accept (be16 h.wire ++ be16 cell ++
      [byteOf c.stack.length, byteOf (s.ports.robotLink l).bookWindow, boolByte (!s.linkUp l)]))

section
variable {l : Link} {handle cell receiver : Half} {n : Nat} {s : State} {h : Handle} {r : Record} {lapsed : Option Nat}

theorem bookRequest_of_range (hrange : 1023 < cell.toNat ∨ 1023 < receiver.toNat) :
    bookRequest l handle cell receiver n s = (s, refuse .badField) := if_pos hrange

/-- BOOK's checks in their order, for a record CARRIED by the robot (R59). -/
theorem bookRequest_eq (hcell : cell.toNat ≤ 1023) (hreceiver : receiver.toNat ≤ 1023)
    (hresolve : s.resolve handle = some (h, r)) (hcustody : r.custody = .carried n lapsed) :
    bookRequest l handle cell receiver n s =
      if r.hopLimit ≤ r.hops then (s, refuse .hopLimit)
      else match s.cell cell.toNat with
        | none => (s, refuse .cellUnknown)
        | some c =>
          if c.state = .closed ∨ (c.state = .draining ∧ c.admissions = 0) then (s, refuse .cellClosed)
          else if s.inLeg r c = false then (s, refuse .notInLeg)
          else if c.capacity ≤ c.stack.length + c.reserved then (s, refuse .cellFull)
          else bookMatched l h r cell receiver n s c := by
  have hrange : ¬ (cell.toNat > 1023 ∨ receiver.toNat > 1023) := by omega
  have hpasses : r.custody.state = .carried ∧ r.custody.party = some n := by rw [hcustody]; exact ⟨rfl, rfl⟩
  unfold bookRequest
  rw [if_neg hrange, withParty_passes hresolve hpasses]
  simp only [not_lt, Bool.not_eq_true']
  split
  · rfl
  · cases s.cell cell.toNat <;> rfl

/-- A BOOK denied by policy takes the rule and is refused (R62, R181). -/
theorem bookMatched_denied {c : Cell} {p : Nat × Rule} (hmatch : s.matchRule (bookKey r c.zone) = some p)
    (hdeny : p.2.deny = true) :
    bookMatched l h r cell receiver n s c =
      (s.takeRule (some p)
        (fun detail => recordNotice .ruleMatch h r (some n) (some cell.toNat) c.zone detail) true, refuse .policy) := by
  simp only [bookMatched, hmatch, Option.map_some, hdeny, Option.getD_some, if_true]

/-- A BOOK that no rule matches, or a rule that does not deny, books the record (R60, R181). -/
theorem bookMatched_allowed {c : Cell} {m : Option (Nat × Rule)} (hmatch : s.matchRule (bookKey r c.zone) = m)
    (hallowed : ∀ p, m = some p → p.2.deny = false) :
    bookMatched l h r cell receiver n s c =
      ((s.takeRule m (fun detail => recordNotice .ruleMatch h r (some n) (some cell.toNat) c.zone detail) false).bookRecord
          n l h r cell.toNat (if receiver = 0 then none else some receiver.toNat) m,
        accept (be16 h.wire ++ be16 cell ++
          [byteOf c.stack.length, byteOf (s.ports.robotLink l).bookWindow, if s.linkUp l then 0 else 1])) := by
  have hdenied : (m.map (·.2.deny)).getD false = false := by
    cases hm : m with
    | none => rfl
    | some p => exact hallowed p hm
  simp only [bookMatched, hmatch, hdenied, robotOrNone_toNat, boolByte_not, Bool.false_eq_true, if_false]

end

/-- Settles O20, from BOOK's checks in their order. -/
theorem bookChecksInOrder : Obligations.BookChecksInOrder := by
  intro s l hd handle cell receiver f n v htakes out
  have hown : ∀ {w a}, bookRequest l handle cell receiver n v = (w, a) → _ :=
    exec_robot (c := .book l hd handle cell receiver) rfl rfl htakes
  refine ⟨fun hrange => hown (bookRequest_of_range hrange), fun hcell hreceiver h r lapsed hresolve hcustody => ?_⟩
  rw [bookRequest_eq hcell hreceiver hresolve hcustody] at hown
  refine ⟨fun hhops => hown (if_pos hhops), fun hhops => ?_⟩
  rw [if_neg (not_le.2 hhops)] at hown
  refine ⟨fun hc => hown (by rw [hc]; rfl), fun c hc => ?_⟩
  simp only [hc, State.inLeg_eq_false_iff] at hown
  split
  · next hclosed => exact hown (if_pos hclosed)
  next hclosed =>
  rw [if_neg hclosed] at hown
  split
  · next hleg => exact hown (if_pos hleg)
  next hleg =>
  rw [if_neg hleg] at hown
  split
  · next hfull => exact hown (if_pos hfull)
  next hfull =>
  rw [if_neg hfull] at hown
  exact fun p hmatch hdeny => hown (bookMatched_denied hmatch hdeny)

/-! ## An accepted BOOK -/

/-- The key at the BOOK point, its flags as bytes (R178). -/
theorem bookKey_eq (r : Record) (zone : Nat) :
    bookKey r zone =
      ⟨1, r.cls.code, byteOf r.priority, byteOf r.originZone, byteOf zone, if r.route.isSome then 1 else 0,
        if r.overdue then 1 else 0, byteOf r.hops, r.wave⟩ := by
  simp only [bookKey, boolByte_eq]

/-- The cell that a BOOK reserves a place on (R31, R60). -/
def Cell.booked (c : Cell) : Cell :=
  { c with
    reserved := c.reserved + 1
    admissions := if c.state = .draining then c.admissions - 1 else c.admissions }

/-- A cell with a place reserved does not close, so that the close check of a BOOK does nothing (R41). -/
theorem Cell.not_closes_booked (c : Cell) : ¬ c.booked.closes := fun ⟨_, _, _, hreserved⟩ => Nat.succ_ne_zero _ hreserved

/-- The whole of what an accepted BOOK writes (R60, R61). -/
theorem State.bookRecord_eq {s : State} {k : Nat} {c : Cell} (hcell : s.cell k = some c) (n : Nat) (l : Link) (h : Handle)
    (r : Record) (receiver : Option Nat) (m : Option (Nat × Rule)) :
    s.bookRecord n l h r k receiver m =
      { s with
        engine :=
          { s.engine with
            records := s.engine.records.put h.slot
              (bookedRecord r n k receiver m (s.startedTiming l (s.ports.robotLink l).bookWindow))
            cells := s.engine.cells.put k c.booked }
        timer := { s.timer with list := s.startedList h .booking l (s.ports.robotLink l).bookWindow } } := by
  have hmod : s.modCell k Cell.booked = s.modEngine fun e => { e with cells := e.cells.put k c.booked } := by
    rw [State.modCell_eq_modify]
    simp only [State.modEngine, Table.modify_of_look hcell]
  unfold State.bookRecord
  rw [show (fun c : Cell => { c with
    reserved := c.reserved + 1
    admissions := if c.state = .draining then c.admissions - 1 else c.admissions }) = Cell.booked from rfl, hmod]
  simp only [State.startTiming_eq]
  exact State.closeCheck_of_not_closes (Table.look_put_self _ _ _) c.not_closes_booked

/-- Settles O19. Past its checks BOOK is `bookMatched`, and `State.bookRecord_eq` says what that writes. -/
theorem bookReservesPlace : Obligations.BookReservesPlace := by
  intro s l hd handle cell receiver f n v h r lapsed c htakes hcellField hreceiverField hresolve hcustody hhops hcell hstate
    hleg hroom m hallowed w window deadline
  have hopen : ¬ (c.state = .closed ∨ (c.state = .draining ∧ c.admissions = 0)) := by
    rcases hstate with hs | ⟨hs, hadmits⟩
    · simp [hs]
    · simp [hs, Nat.pos_iff_ne_zero.1 hadmits]
  have hinLeg : ¬ v.inLeg r c = false := by
    rw [State.inLeg_eq_false_iff]
    rintro ⟨hplanned, hgroup⟩
    obtain ⟨route, hroute⟩ := Option.isSome_iff_exists.1 hplanned
    obtain ⟨leg, hlegOf, hnamed⟩ := hleg route hroute
    simp [hroute, hlegOf, hnamed] at hgroup
  have hmatch : v.matchRule (bookKey r c.zone) = m := by rw [bookKey_eq]
  have hown := bookRequest_eq (l := l) hcellField hreceiverField hresolve hcustody
  simp only [if_neg (not_le.2 hhops), hcell, if_neg hopen, if_neg hinLeg, if_neg (not_le.2 hroom),
    bookMatched_allowed hmatch hallowed] at hown
  have hengine : w.engine = v.engine := State.takeRule_engine v m _ false
  have hwcell : w.cell cell.toNat = some c := by rw [State.cell, hengine]; exact hcell
  have hports : w.ports = v.ports := State.takeRule_ports v m _ false
  have hwindow : (w.ports.robotLink l).bookWindow = window := by rw [hports]
  have hside : v.Side w := (v.quiet_takeRule m (fun p => State.matchRule_mem) _ false).side
  have hbooked := State.bookRecord_eq hwcell n l h r (if receiver = 0 then none else some receiver.toNat) m
  simp only [hwindow, hside.startedTiming, hside.startedList, hside.timer, hengine] at hbooked
  have htaken : v.takeRule m (fun detail =>
      recordNotice .ruleMatch h r (some n) (some cell.toNat) c.zone detail) false = w := rfl
  rw [htaken, hbooked] at hown
  exact exec_robot (c := .book l hd handle cell receiver) rfl rfl htakes hown

end Sys2Proof.Machine
end

section
/-! SUPPORT. UNBOOK and YIELD written out block by block. -/

namespace Sys2Proof.Machine

/-! ## UNBOOK -/

/-- The whole of what the end of a booking writes (R63, R141). -/
theorem State.endBooking_eq {s : State} {k : Nat} {c : Cell} (hcell : s.cell k = some c) (h : Handle) (r : Record)
    (carrier : Nat) (lapsed : Option Nat) :
    s.endBooking h r carrier k lapsed =
      State.closeCheck
        { s with
          engine :=
            { s.engine with
              records := s.engine.records.put h.slot { r with custody := .carried carrier lapsed }
              cells := s.engine.cells.put k c.unreserved }
          timer := { s.timer with list := s.timer.list.filter fun d => d.handle ≠ h } } k := by
  have hcells : s.engine.cells.modify k Cell.unreserved = s.engine.cells.put k c.unreserved :=
    Table.modify_of_look hcell _
  rw [← hcells]
  unfold State.endBooking State.unreserve
  rw [State.modCell_eq_modify]
  rfl

/-- The state code of a cell after its close check (R41). -/
theorem State.cellStateCode_closeCheck {s : State} {k : Nat} {c : Cell} (hcell : s.cell k = some c) :
    (s.closeCheck k).cellStateCode k =
      if c.state = .draining ∧ c.admissions = 0 ∧ c.stack = [] ∧ c.reserved = 0 then 2 else c.state.code := by
  split
  · next hcloses =>
    rw [State.closeCheck_of_closes hcell hcloses]
    simp [State.cellStateCode, State.countEvent, State.cell, State.putCell, CellState.code]
  · next hstays =>
    rw [State.closeCheck_of_not_closes hcell hstays]
    simp only [State.cellStateCode, hcell, Option.map_some, Option.getD_some]

/-- The cell that a booking leaves is CLOSED when it drained for that booking alone (R41, R63). -/
theorem State.cellStateCode_endBooking {s : State} {k : Nat} {c : Cell} (hcell : s.cell k = some c) (h : Handle) (r : Record)
    (carrier : Nat) (lapsed : Option Nat) :
    (s.endBooking h r carrier k lapsed).cellStateCode k =
      if c.state = .draining ∧ c.admissions = 0 ∧ c.stack = [] ∧ c.reserved ≤ 1 then 2 else c.state.code := by
  rw [State.endBooking_eq hcell, State.cellStateCode_closeCheck (c := c.unreserved)]
  · simp only [Cell.unreserved, Nat.sub_eq_zero_iff_le]
  · exact Table.look_put_self _ _ _

section
variable {s : State} {handle : Half} {h : Handle} {r : Record} {n : Nat} {timing : Timing}

/-- UNBOOK of a record that is BOOKED by the robot (R63). -/
theorem unbookRequest_eq {k : Nat} {receiver : Option Nat} {ov : Option Byte} (hresolve : s.resolve handle = some (h, r))
    (hcustody : r.custody = .booked n k receiver ov timing) :
    unbookRequest handle n s =
      let t := s.endBooking h r n k none
      (t, accept (be16 h.wire ++ [t.cellStateCode k])) := by
  have hpasses : r.custody.state = .booked ∧ r.custody.party = some n := by rw [hcustody]; exact ⟨rfl, rfl⟩
  unfold unbookRequest
  rw [withParty_passes hresolve hpasses]
  simp only [hcustody]

/-! ## YIELD -/

/-- The whole of what the end of a claim writes (R72, R143). -/
theorem State.endClaim_eq {e : Robot} (hrobot : s.robot n = some e) (h : Handle) (r : Record) (spot : Spot)
    (lapsed : Option Nat) :
    s.endClaim h r spot n lapsed =
      State.enter
        { s with
          engine :=
            { s.engine with
              records := s.engine.records.put h.slot { r with custody := .staged spot lapsed }
              roster := s.engine.roster.put n { e with party := none } }
          timer := { s.timer with list := s.timer.list.filter fun d => d.handle ≠ h } } h spot.mask r.priority spot.seq := by
  have hroster : s.engine.roster.modify n (fun e => { e with party := none }) =
      s.engine.roster.put n { e with party := none } := Table.modify_of_look hrobot _
  rw [← hroster]
  unfold State.endClaim State.setParty
  rw [State.modRobot_eq_modify]
  rfl

/-- The end of a claim leaves the bin where it stands (R72). -/
theorem State.position_endClaim {e : Robot} (hrobot : s.robot n = some e) (h : Handle) (r : Record) (spot : Spot)
    (lapsed : Option Nat) (k : Nat) : (s.endClaim h r spot n lapsed).position k = s.position k := by
  rw [State.endClaim_eq hrobot, State.enter_eq]
  rfl

/-- YIELD of a record that is CLAIMED by the robot (R72). -/
theorem yieldRequest_eq {spot : Spot} (hresolve : s.resolve handle = some (h, r))
    (hcustody : r.custody = .claimed spot n timing) :
    yieldRequest handle n s =
      let t := s.endClaim h r spot n none
      (t, accept (be16 h.wire ++ [smallField (t.position spot.cell h)])) := by
  have hpasses : r.custody.state = .claimed ∧ r.custody.party = some n := by rw [hcustody]; exact ⟨rfl, rfl⟩
  unfold yieldRequest
  rw [withParty_passes hresolve hpasses]
  simp only [hcustody]

end

/-- Settles O22. Both requests pass the party test; `State.endBooking_eq` and `State.endClaim_eq` say what they write. -/
theorem unbookYieldAndCloseCheck : Obligations.UnbookYieldAndCloseCheck := by
  refine ⟨?unbook, ?yield, fun s k c hcell => ⟨State.closeCheck_of_closes hcell, State.closeCheck_of_not_closes hcell⟩⟩
  case unbook =>
    intro s l hd handle f n v h r k receiver ov timing c htakes hresolve hcustody hcell t
    have hown := unbookRequest_eq hresolve hcustody
    simp only [State.cellStateCode_endBooking hcell] at hown
    rw [State.endBooking_eq hcell] at hown
    exact exec_robot (c := .unbook l hd handle) rfl rfl htakes hown
  case yield =>
    intro s l hd handle f n v h r spot timing e htakes hresolve hcustody hrobot t
    have hown := yieldRequest_eq hresolve hcustody
    simp only [State.position_endClaim hrobot] at hown
    rw [State.endClaim_eq hrobot] at hown
    exact exec_robot (c := .yieldBin l hd handle) rfl rfl htakes hown

end Sys2Proof.Machine
end

section
/-! SUPPORT. CLAIM and SEEK: their checks in order, the SEEK walk, and the reply to a grant. -/

namespace Sys2Proof.Machine

/-! ## What both ask of the robot, and what a grant answers -/

section
variable {s : State} {n : Nat} {e : Robot}

/-- The first two checks of CLAIM and SEEK, for an enrolled robot (R67, R70). -/
theorem State.grantable_eq (hrobot : s.robot n = some e) :
    s.grantable n = if e.suspended then some .suspended else if e.party.isSome then some .robotBusy else none := by
  simp only [State.grantable, hrobot]

/-- A grant leaves the links and the bin's place on its cell, so that the reply tells them as they were (R68, R71). -/
theorem grantReply_eq (hrobot : s.robot n = some e) (l : Link) (h : Handle) (r : Record) (spot : Spot) :
    grantReply (s.grant n l h r spot) l h r spot =
      ⟨.ok, [be16 h.wire ++ be32 (wordOf r.bin) ++ be16 (halfOf spot.cell) ++
        [smallField (s.position spot.cell h), byteOf (s.ports.robotLink l).claimWindow, if s.linkUp l then 0 else 1]]⟩ := by
  rw [State.grant_eq s n l h r spot e hrobot, State.leave_eq]
  simp only [grantReply, boolByte_not]
  rfl

end

/-! ## CLAIM -/

theorem claimRequest_of_not_grantable {s : State} {n : Nat} {res : Result} (hgrant : s.grantable n = some res) (l : Link)
    (handle : Half) : claimRequest l handle n s = (s, refuse res) := by
  simp only [claimRequest, hgrant]

section
variable {s : State} {n : Nat} {handle : Half} {h : Handle} {r : Record} (hgrant : s.grantable n = none) (l : Link)
include hgrant

theorem claimRequest_stale (hresolve : s.resolve handle = none) :
    claimRequest l handle n s = (s, refuse .staleHandle) := by
  simp only [claimRequest, hgrant, hresolve]

theorem claimRequest_of_not_staged (hresolve : s.resolve handle = some (h, r)) (hstate : r.custody.state ≠ .staged) :
    claimRequest l handle n s = (s, refuse .wrongState) := by
  cases hcustody : r.custody with
  | staged => exact absurd (by rw [hcustody]; rfl) hstate
  | carried | booked | claimed => simp only [claimRequest, hgrant, hresolve, hcustody]

/-- CLAIM of a STAGED record: it is BURIED, the custody check refuses it, or it is granted (R67 to R69). -/
theorem claimRequest_of_staged {spot : Spot} {lapsed : Option Nat} (hresolve : s.resolve handle = some (h, r))
    (hcustody : r.custody = .staged spot lapsed) :
    claimRequest l handle n s =
      if s.cellTop spot.cell ≠ some h then (s, refuse .buried)
      else if s.custodyCheck n spot = false then (s.refuseCustody n h r spot, refuse .custody)
      else (s.grant n l h r spot, grantReply (s.grant n l h r spot) l h r spot) := by
  simp only [claimRequest, hgrant, hresolve, hcustody, Bool.not_eq_true']

end

/-- What a CUSTODY refusal raises and posts, with the cell at hand (R69, R109). -/
theorem State.refuseCustody_eq {s : State} {spot : Spot} {c : Cell} (hcell : s.cell spot.cell = some c) (n : Nat)
    (h : Handle) (r : Record) :
    s.refuseCustody n h r spot =
      let t := s.countEvent .claimRefused c.zone 0
      if c.report then t.post .custody (recordNotice .custodyRefused h r (some n) (some spot.cell) c.zone c.check.code)
      else t := by
  simp only [State.refuseCustody, hcell]

theorem State.cellTop_eq {s : State} {k : Nat} {c : Cell} (hcell : s.cell k = some c) : s.cellTop k = c.stack.getLast? := by
  simp only [State.cellTop, hcell, Option.bind_some]

/-- Settles O25, from CLAIM's checks in their order. -/
theorem claimChecksInOrder : Obligations.ClaimChecksInOrder := by
  intro s l hd handle f n v e htakes hrobot out
  have hown : ∀ {w a}, claimRequest l handle n v = (w, a) → _ :=
    exec_robot (c := .claim l hd handle) rfl rfl htakes
  have hgrant := State.grantable_eq hrobot
  split
  · next hsuspended =>
    rw [if_pos hsuspended] at hgrant
    exact hown (claimRequest_of_not_grantable hgrant l handle)
  next hactive =>
  rw [if_neg hactive] at hgrant
  split
  · next hparty =>
    rw [if_pos hparty] at hgrant
    exact hown (claimRequest_of_not_grantable hgrant l handle)
  next hparty =>
  rw [if_neg hparty] at hgrant
  refine ⟨fun hresolve => hown (claimRequest_stale hgrant l hresolve), fun h r hresolve => ?_⟩
  refine ⟨fun hstate => hown (claimRequest_of_not_staged hgrant l hresolve hstate), fun spot lapsed c hcustody hcell => ?_⟩
  rw [claimRequest_of_staged hgrant l hresolve hcustody, State.cellTop_eq hcell, State.refuseCustody_eq hcell] at hown
  split
  · next htop => exact hown (if_pos htop)
  next htop =>
  rw [if_neg htop] at hown
  split
  · next hcheck => exact hown (if_pos hcheck)
  · trivial

/-- Settles O24. The claim passes its checks, and `State.grant_eq` says what the grant writes. -/
theorem claimGrantsTop : Obligations.ClaimGrantsTop := by
  intro s l hd handle f n v h r spot lapsed e htakes hrobot hactive hparty hresolve hcustody htop hcheck x window deadline
  have hgrant : v.grantable n = none := by rw [State.grantable_eq hrobot]; simp [hactive, hparty]
  have hown := claimRequest_of_staged hgrant l hresolve hcustody
  rw [if_neg (not_not.2 htop), if_neg (by simp [hcheck]), grantReply_eq hrobot,
    State.grant_eq v n l h r spot e hrobot] at hown
  exact exec_robot (c := .claim l hd handle) rfl rfl htakes hown

/-! ## SEEK -/

/-- A member of the queue passes both tests of the walk: it is STAGED, not designated for another enrolled robot, and the
custody check lets the robot have it (R110). -/
def State.passes (s : State) (n : Nat) (m : PickupEntry) (r : Record) (spot : Spot) : Prop :=
  s.recordOf m.handle = some r ∧ (∃ lapsed, r.custody = .staged spot lapsed) ∧
    (∀ d, spot.receiver = some d → (s.robot d).isSome = true → d = n) ∧ s.custodyCheck n spot = true

/-- The effective designated receiver is the one stored, when it is enrolled (R106). -/
theorem State.effectiveReceiver_eq_some_iff (s : State) (spot : Spot) (d : Nat) :
    s.effectiveReceiver spot = some d ↔ spot.receiver = some d ∧ (s.robot d).isSome = true := by
  simp only [State.effectiveReceiver, Option.filter_eq_some_iff]

section
variable {s : State} {n : Nat} {m : PickupEntry}

/-- The two tests of the walk, for a STAGED record (R110). -/
theorem State.seekTest_of_staged {r : Record} {spot : Spot} {lapsed : Option Nat} (hrec : s.recordOf m.handle = some r)
    (hcustody : r.custody = .staged spot lapsed) :
    s.seekTest n m =
      if (∀ d, s.effectiveReceiver spot = some d → d = n) ∧ s.custodyCheck n spot = true then some (m.handle, r, spot)
      else none := by
  simp only [State.seekTest, hrec, hcustody]
  cases s.effectiveReceiver spot <;> simp

/-- The walk selects a member exactly when it passes both tests (R110). -/
theorem State.seekTest_of_passes {r : Record} {spot : Spot} (h : s.passes n m r spot) :
    s.seekTest n m = some (m.handle, r, spot) := by
  obtain ⟨hrec, ⟨lapsed, hcustody⟩, hdesignated, hcheck⟩ := h
  rw [State.seekTest_of_staged hrec hcustody]
  refine if_pos ⟨fun d hd => ?_, hcheck⟩
  obtain ⟨hreceiver, henrolled⟩ := (s.effectiveReceiver_eq_some_iff spot d).1 hd
  exact hdesignated d hreceiver henrolled

theorem State.seekTest_eq_none (h : ∀ r spot, ¬ s.passes n m r spot) : s.seekTest n m = none := by
  cases hrec : s.recordOf m.handle with
  | none => simp only [State.seekTest, hrec]
  | some r =>
    cases hcustody : r.custody with
    | carried | booked | claimed => simp only [State.seekTest, hrec, hcustody]
    | staged spot lapsed =>
      rw [State.seekTest_of_staged hrec hcustody]
      refine if_neg fun ⟨hdesignated, hcheck⟩ => h r spot ⟨hrec, ⟨lapsed, hcustody⟩, fun d hreceiver henrolled => ?_, hcheck⟩
      exact hdesignated d ((s.effectiveReceiver_eq_some_iff spot d).2 ⟨hreceiver, henrolled⟩)

end

theorem State.seekWalk_eq {s : State} {n : Nat} {e : Robot} (hrobot : s.robot n = some e) :
    s.seekWalk n = (s.queueOf e.group).findSome? (s.seekTest n) := by
  simp only [State.seekWalk, hrobot, Option.map_some, Option.getD_some]

section
variable {s : State} {n : Nat} (l : Link)

theorem seekRequest_of_not_grantable {res : Result} (hgrant : s.grantable n = some res) :
    seekRequest l n s = (s, refuse res) := by
  simp only [seekRequest, hgrant]

theorem seekRequest_of_walk_none (hgrant : s.grantable n = none) (hwalk : s.seekWalk n = none) :
    seekRequest l n s = (s, refuse .none) := by
  simp only [seekRequest, hgrant, hwalk]

theorem seekRequest_of_walk_some {h : Handle} {r : Record} {spot : Spot} (hgrant : s.grantable n = none)
    (hwalk : s.seekWalk n = some (h, r, spot)) :
    seekRequest l n s = (s.grant n l h r spot, grantReply (s.grant n l h r spot) l h r spot) := by
  simp only [seekRequest, hgrant, hwalk]

end

/-- Settles O26. The walk finds nothing when no member passes, and else the first that passes, which is granted as by a
CLAIM. -/
theorem seekGrantsFirstMember : Obligations.SeekGrantsFirstMember := by
  intro s l hd f n v e htakes hrobot passes
  have hown : ∀ {w a}, seekRequest l n v = (w, a) → _ := exec_robot (c := .seek l hd) rfl rfl htakes
  have hgrant := State.grantable_eq hrobot
  refine ⟨fun hsuspended => ?_, fun hactive hparty => ?_, fun hactive hparty => ?_⟩
  · rw [hsuspended] at hgrant
    exact hown (seekRequest_of_not_grantable l hgrant)
  · rw [hactive, hparty] at hgrant
    exact hown (seekRequest_of_not_grantable l hgrant)
  rw [hactive, hparty] at hgrant
  constructor
  · intro hnone
    refine hown (seekRequest_of_walk_none l hgrant ?_)
    rw [State.seekWalk_eq hrobot, List.findSome?_eq_none_iff]
    exact fun m hm => State.seekTest_eq_none (hnone m hm)
  · intro front m back r spot hqueue hfront hpasses h x window deadline
    have hwalk : v.seekWalk n = some (h, r, spot) := by
      rw [State.seekWalk_eq hrobot, List.findSome?_eq_some_iff]
      exact ⟨front, m, back, hqueue, State.seekTest_of_passes hpasses,
        fun m' hm' => State.seekTest_eq_none (hfront m' hm')⟩
    have hseek := seekRequest_of_walk_some l hgrant hwalk
    rw [grantReply_eq hrobot, State.grant_eq v n l h r spot e hrobot] at hseek
    exact hown hseek

end Sys2Proof.Machine
end

section
/-! SUPPORT. FINISH and the two queries. -/

namespace Sys2Proof.Machine

/-! ## FINISH -/

/-- FINISH of a record CARRIED by the robot (R76, R77). -/
theorem finishRequest_eq {s : State} {handle : Half} {h : Handle} {r : Record} {n : Nat} {lapsed : Option Nat}
    (hresolve : s.resolve handle = some (h, r)) (hcustody : r.custody = .carried n lapsed) (outcome : Byte) :
    finishRequest handle outcome n s =
      if 1 < outcome.toNat then (s, refuse .badField)
      else
        let x := s.retire h r
        (if r.overdue then x.post .thermal (recordNotice .overdueFinished h r (some n) none r.presentZone outcome) else x,
          accept (be16 h.wire ++ [outcome, byteOf r.hops] ++ be16 (halfOf r.exposure) ++
            [flagByte [r.warned, r.overdue, r.rescued]])) := by
  have hpasses : r.custody.state = .carried ∧ r.custody.party = some n := by rw [hcustody]; exact ⟨rfl, rfl⟩
  have houtcome : (outcome ≠ 0 ∧ outcome ≠ 1) ↔ 1 < outcome.toNat := by bv_omega
  unfold finishRequest
  rw [withParty_passes hresolve hpasses]
  simp only [houtcome]

/-- Settles O29. -/
theorem finishRetiresRecord : Obligations.FinishRetiresRecord := by
  intro s l hd handle outcome f n v h r lapsed htakes hresolve hcustody
  have hown : ∀ {w a}, finishRequest handle outcome n v = (w, a) → _ :=
    exec_robot (c := .finish l hd handle outcome) rfl rfl htakes
  rw [finishRequest_eq hresolve hcustody] at hown
  exact ⟨fun hbad => hown (if_pos hbad), fun hgood => hown (if_neg (not_lt.2 hgood))⟩

/-! ## QUERY-BIN -/

/-- The state in which a robot request's own checks are made has the Bin Index of the state before. -/
theorem State.binIndex_of_robotTakes {s v : State} {c : Instr} {f : Frame} {n : Nat} (htakes : s.robotTakes c f n v) :
    v.engine.binIndex = s.engine.binIndex := by
  obtain ⟨u, hready, hintake⟩ := htakes
  obtain ⟨ports, rfl⟩ := State.ready_eq_ports hready
  cases hport : f.port with
  | host => simp [State.intake, hport] at hintake
  | link l =>
    obtain ⟨-, e, -, rfl⟩ := State.of_intake hport hintake
    obtain ⟨records, list, heq⟩ := State.linkUpdate_eq { s with ports := ports } n l e
    rw [heq]

/-- A bin ID of 0 names no record (R6). -/
theorem State.look_binIndex_zero {s : State} (hslot : s.slotLaw) : s.engine.binIndex.look 0 = none := by
  obtain ⟨-, -, -, -, -, -, -, -, hbins⟩ := hslot
  refine Option.eq_none_iff_forall_ne_some.2 fun slot hlook => ?_
  exact absurd (hbins 0 slot hlook).1 (by omega)

section
variable {s : State} {bin : Word} (n : Nat)

theorem queryBinRequest_absent (hlook : s.engine.binIndex.look bin.toNat = none) :
    queryBinRequest bin n s = (s, refuse .none) := by
  simp only [queryBinRequest, State.findBin, hlook]

theorem queryBinRequest_live {slot : Nat} {r : Record} (hlook : s.engine.binIndex.look bin.toNat = some slot)
    (hrecord : s.engine.records.look slot = some r) :
    queryBinRequest bin n s = (s, accept (queryBinBody s (s.handleOf slot) r)) := by
  simp only [queryBinRequest, State.findBin, hlook, hrecord, Option.map_some]

end

/-! ## QUERY-CELL -/

/-- The entries of the bins that have a record, one after the other (R79). -/
theorem flatMap_stackEntry (s : State) (stack : List Handle) :
    stack.flatMap (stackEntry s) =
      (stack.filterMap fun b => (s.recordOf b).map fun r =>
        be16 b.wire ++ be32 (wordOf r.bin) ++ [r.custody.state.code, byteOf r.priority]).flatten := by
  induction stack with
  | nil => rfl
  | cons b stack ih => cases hrec : s.recordOf b <;> simp [stackEntry, hrec, ih]

section
variable {s : State} {cell : Half} (n : Nat)

theorem queryCellRequest_of_range (hrange : 1023 < cell.toNat) : queryCellRequest cell n s = (s, refuse .badField) :=
  if_pos hrange

theorem queryCellRequest_undefined (hrange : cell.toNat ≤ 1023) (hcell : s.cell cell.toNat = none) :
    queryCellRequest cell n s = (s, refuse .cellUnknown) := by
  simp only [queryCellRequest, gt_iff_lt, if_neg (not_lt.2 hrange), hcell]

theorem queryCellRequest_defined {c : Cell} (hrange : cell.toNat ≤ 1023) (hcell : s.cell cell.toNat = some c) :
    queryCellRequest cell n s =
      (s, accept ([c.state.code, byteOf c.capacity, byteOf c.reserved, byteOf c.admissions, byteOf c.stack.length] ++
        c.stack.reverse.flatMap (stackEntry s))) := by
  simp only [queryCellRequest, gt_iff_lt, if_neg (not_lt.2 hrange), hcell]

end

/-- Settles O31. A query leaves the state of the link update; under the law of the slots no record has bin ID 0. -/
theorem queriesChangeNothing : Obligations.QueriesChangeNothing := by
  intro s l hd f n v
  refine ⟨fun bin htakes => ?bin, fun cell htakes => ?cell⟩
  case bin =>
    have hown : ∀ {w a}, queryBinRequest bin n v = (w, a) → _ := exec_robot (c := .queryBin l hd bin) rfl rfl htakes
    refine ⟨fun habsent => hown (queryBinRequest_absent n habsent), fun hzero hslot => ?_, ?_⟩
    · have habsent : v.engine.binIndex.look bin.toNat = none := by
        rw [State.binIndex_of_robotTakes htakes, hzero]
        exact State.look_binIndex_zero hslot
      exact hown (queryBinRequest_absent n habsent)
    · exact fun slot r hlook hrecord => hown (queryBinRequest_live n hlook hrecord)
  case cell =>
    have hown : ∀ {w a}, queryCellRequest cell n v = (w, a) → _ := exec_robot (c := .queryCell l hd cell) rfl rfl htakes
    refine ⟨fun hrange => hown (queryCellRequest_of_range n hrange),
      fun hrange hcell => hown (queryCellRequest_undefined n hrange hcell), fun c hrange hcell _ => hown ?_⟩
    rw [queryCellRequest_defined n hrange hcell, flatMap_stackEntry]
    rfl

end Sys2Proof.Machine
end

section
/-! SUPPORT. The parties: what each operation does to the party references of the roster and to the parties that records
name. -/

namespace Sys2Proof.Machine

/-! ## References both ways -/

/-- The party reference of a robot, if it is enrolled and has one (R82). -/
def State.partyRef (s : State) (n : Nat) : Option (Handle × Role) := (s.robot n).bind (·.party)

/-- The party, with its role, of the live record that a handle names (R21, R82). -/
def State.partyOf (s : State) (h : Handle) : Option (Nat × Role) := (s.recordOf h).bind (·.custody.partyRole)

/-- A robot refers to a record in a role exactly when the record names the robot in that role. -/
def Mutual (ref : Nat → Option (Handle × Role)) (named : Handle → Option (Nat × Role)) : Prop :=
  ∀ n h role, ref n = some (h, role) ↔ named h = some (n, role)

/-- A robot and a record, neither of which is paired with another. -/
def Pairable (ref : Nat → Option (Handle × Role)) (named : Handle → Option (Nat × Role)) (n : Nat) (h : Handle) : Prop :=
  (∀ x role, ref n = some (x, role) → x = h) ∧ ∀ m role, named h = some (m, role) → m = n

section
variable {ref : Nat → Option (Handle × Role)} {named : Handle → Option (Nat × Role)} {n : Nat} {h : Handle}

/-- A record and its party are paired with no other. -/
theorem Mutual.pairable_of_named {role : Role} (hm : Mutual ref named) (hnamed : named h = some (n, role)) :
    Pairable ref named n h := by
  have href := (hm n h role).2 hnamed
  refine ⟨fun x role' hx => ?_, fun m role' hm' => ?_⟩
  · rw [href] at hx
    cases hx
    rfl
  · rw [hnamed] at hm'
    cases hm'
    rfl

/-- A robot party to nothing and a record with no party may be paired. -/
theorem pairable_of_free (href : ref n = none) (hnamed : named h = none) : Pairable ref named n h :=
  ⟨fun x role hx => (by rw [href] at hx; cases hx), fun m role hm => (by rw [hnamed] at hm; cases hm)⟩

/-- The two are paired in a role, or parted, on both sides at once. -/
theorem Mutual.update (hm : Mutual ref named) (hpair : Pairable ref named n h) (role : Option Role) :
    Mutual (Function.update ref n (role.map fun x => (h, x))) (Function.update named h (role.map fun x => (n, x))) := by
  obtain ⟨hrobot, hrecord⟩ := hpair
  intro m x role'
  by_cases hmn : m = n
  · subst hmn
    by_cases hx : x = h
    · subst hx
      simp
    · have hnot : named x ≠ some (m, role') := fun hn => hx (hrobot x role' ((hm m x role').2 hn))
      simp [Function.update_of_ne hx, hnot, Ne.symm hx]
  · by_cases hx : x = h
    · subst hx
      have hnot : ref m ≠ some (x, role') := fun hr => hmn (hrecord m role' ((hm m x role').1 hr))
      simp [Function.update_of_ne hmn, hnot, Ne.symm hmn]
    · rw [Function.update_of_ne hmn, Function.update_of_ne hx]
      exact hm m x role'

end

/-- Robots and records refer to one another. -/
def State.PartiesMutual (s : State) : Prop := Mutual s.partyRef s.partyOf

theorem State.partyRef_eq_some {s : State} {n : Nat} {p : Handle × Role} :
    s.partyRef n = some p ↔ ∃ e, s.robot n = some e ∧ e.party = some p := Option.bind_eq_some_iff

theorem State.partyOf_eq_some {s : State} {h : Handle} {p : Nat × Role} :
    s.partyOf h = some p ↔ ∃ r, s.recordOf h = some r ∧ r.custody.partyRole = some p := Option.bind_eq_some_iff

theorem State.partyOf_of_recordOf {s : State} {h : Handle} {r : Record} (hrec : s.recordOf h = some r) :
    s.partyOf h = r.custody.partyRole := by
  rw [State.partyOf, hrec, Option.bind_some]

/-- The law of the parties is that references go both ways: a reference is that of an enrolled robot (R82). -/
theorem State.partyLaw_iff {s : State} (hwf : s.engine.records.wf = true) : s.partyLaw ↔ s.PartiesMutual := by
  constructor
  · rintro ⟨hrefs, henrolled⟩ n h role
    rw [State.partyOf_eq_some, State.partyRef_eq_some]
    constructor
    · rintro ⟨e, he, hparty⟩
      exact (hrefs n e he h role).1 hparty
    · rintro ⟨r, hrec, hrole⟩
      obtain ⟨hlook, -⟩ := State.look_of_recordOf hrec
      have hparty : r.custody.party = some n := by rw [Custody.party_eq, hrole, Option.map_some]
      obtain ⟨e, he⟩ := Option.isSome_iff_exists.1 (henrolled _ (Table.mem_of_look hlook) n hparty)
      exact ⟨e, he, (hrefs n e he h role).2 ⟨r, hrec, hrole⟩⟩
  · intro hm
    refine ⟨fun n e he h role => ?_, fun p hp n hparty => ?_⟩
    · rw [← State.partyOf_eq_some, ← hm n h role, State.partyRef, he, Option.bind_some]
    · rw [Custody.party_eq] at hparty
      obtain ⟨⟨m, role⟩, hrole, rfl⟩ := Option.map_eq_some_iff.1 hparty
      have hrec : s.recordOf (s.handleOf p.1) = some p.2 :=
        (s.recordOf_handleOf p.1).trans ((Table.mem_iff_look hwf p).1 hp)
      obtain ⟨e, he, -⟩ := State.partyRef_eq_some.1
        ((hm m (s.handleOf p.1) role).2 ((State.partyOf_of_recordOf hrec).trans hrole))
      rw [he]
      rfl

/-! ## The records' side -/

theorem State.partyOf_congr {s t : State} (h : t.tables = s.tables) : t.partyOf = s.partyOf :=
  funext fun x => by simp only [State.partyOf, State.recordOf_congr h]

/-- A live record written anew is named by its own handle only. -/
theorem State.recordOf_rewritten_eq {s : State} {h : Handle} {r : Record} (hrec : s.recordOf h = some r) (r' : Record)
    (list : List Deadline) (plans : Table Plan) :
    (s.rewritten h.slot r' list plans).recordOf = Function.update s.recordOf h (some r') := by
  funext x
  by_cases hx : x = h
  · subst hx
    rw [Function.update_self, (State.recordOf_rewritten (State.look_of_recordOf hrec).1 hrec).1, if_pos rfl]
  · rw [Function.update_of_ne hx, ← State.recordOf_putRecord_ne (r' := r') hrec hx]
    rfl

/-- A record opened in a slot is named by the slot's handle only. -/
theorem State.recordOf_added (s : State) (slot : Nat) (r : Record) :
    (s.added slot r).recordOf = Function.update s.recordOf (s.handleOf slot) (some r) := by
  funext x
  have hgen : (s.added slot r).generation x.slot = s.generation x.slot := rfl
  have hlook : (s.added slot r).engine.records.look x.slot =
      if x.slot = slot then some r else s.engine.records.look x.slot :=
    Table.look_put _ _ _ _
  by_cases hx : x = s.handleOf slot
  · have hslot : (s.added slot r).handleOf slot = s.handleOf slot := rfl
    rw [hx, Function.update_self, ← hslot, State.recordOf_handleOf]
    exact Table.look_put_self _ _ _
  · rw [Function.update_of_ne hx]
    unfold State.recordOf
    rw [hgen, hlook]
    split
    · next hxgen =>
      have hslot : x.slot ≠ slot := fun hslot => hx (State.handle_unique hxgen rfl hslot)
      rw [if_neg hslot]
    · rfl

/-- A retired record is named by no handle. -/
theorem State.recordOf_removed {s : State} {h : Handle} {r : Record} (hrec : s.recordOf h = some r) :
    (s.removed h r).recordOf = Function.update s.recordOf h none := by
  funext x
  obtain ⟨-, hgen⟩ := State.look_of_recordOf hrec
  have hlook : (s.removed h r).engine.records.look x.slot =
      if x.slot = h.slot then none else s.engine.records.look x.slot := Table.look_del _ _ _
  by_cases hslot : x.slot = h.slot
  · have hnone : (s.removed h r).recordOf x = none := by rw [State.recordOf, hlook, if_pos hslot, ite_self]
    rw [hnone]
    by_cases hx : x = h
    · rw [hx, Function.update_self]
    · rw [Function.update_of_ne hx, State.recordOf, if_neg fun hxgen => hx (State.handle_unique hxgen hgen hslot)]
  · have hgens : (s.removed h r).generation x.slot = s.generation x.slot := by
      simp only [State.generation, State.removed, Table.lookD_putD, if_neg hslot]
    rw [Function.update_of_ne fun hx => hslot (by rw [hx]), State.recordOf, State.recordOf, hgens, hlook, if_neg hslot]

/-- What a written handle names gives its party. -/
theorem State.partyOf_of_update {s t : State} {h : Handle} {r : Option Record}
    (ht : t.recordOf = Function.update s.recordOf h r) :
    t.partyOf = Function.update s.partyOf h (r.bind (·.custody.partyRole)) := by
  funext x
  rw [State.partyOf, ht]
  by_cases hx : x = h
  · rw [hx, Function.update_self, Function.update_self]
  · rw [Function.update_of_ne hx, Function.update_of_ne hx, State.partyOf]

theorem State.partyOf_rewritten {s t : State} {h : Handle} {r r' : Record} {list : List Deadline} {plans : Table Plan}
    (hrec : s.recordOf h = some r) (ht : t.tables = (s.rewritten h.slot r' list plans).tables) :
    t.partyOf = Function.update s.partyOf h r'.custody.partyRole :=
  (State.partyOf_congr ht).trans (State.partyOf_of_update (State.recordOf_rewritten_eq hrec r' list plans))

/-- A record written with the party it had. -/
theorem State.partyOf_rewritten_same {s t : State} {h : Handle} {r r' : Record} {list : List Deadline} {plans : Table Plan}
    (hrec : s.recordOf h = some r) (hrole : r'.custody.partyRole = r.custody.partyRole)
    (ht : t.tables = (s.rewritten h.slot r' list plans).tables) : t.partyOf = s.partyOf := by
  rw [State.partyOf_rewritten hrec ht, hrole, ← State.partyOf_of_recordOf hrec, Function.update_eq_self]

theorem State.partyOf_alignHold (s : State) (slot : Nat) (up : Bool) : (s.alignHold slot up).partyOf = s.partyOf := by
  rcases s.alignHold_cases slot up with ⟨h, -⟩ | ⟨-, r, _, hlook, -, h⟩ | ⟨-, r, _, hlook, -, h⟩
  · rw [h]
  all_goals
    have hrec := (s.recordOf_handleOf slot).trans hlook
    exact State.partyOf_rewritten_same hrec (r.partyRole_timed _) (congrArg State.tables h)

/-! ## The roster's side -/

theorem State.partyRef_congr {s t : State} (h : t.engine.roster = s.engine.roster) : t.partyRef = s.partyRef := by
  funext n
  simp only [State.partyRef, State.robot, h]

/-- A robot's entry written anew. -/
theorem State.partyRef_putRobot (s : State) (n : Nat) (e : Robot) :
    (s.putRobot n e).partyRef = Function.update s.partyRef n e.party := by
  funext m
  simp only [State.partyRef, State.robot, State.putRobot, State.modEngine_engine, Table.look_put]
  by_cases hm : m = n
  · rw [if_pos hm, hm, Function.update_self, Option.bind_some]
  · rw [if_neg hm, Function.update_of_ne hm, State.partyRef, State.robot]

theorem State.partyRef_putRobot_same {s : State} {n : Nat} {e : Robot} (hparty : e.party = s.partyRef n) :
    (s.putRobot n e).partyRef = s.partyRef := by
  rw [State.partyRef_putRobot, hparty, Function.update_eq_self]

/-- An enrolled robot's entry changed. -/
theorem State.partyRef_modRobot {s : State} {n : Nat} {e : Robot} (he : s.robot n = some e) (f : Robot → Robot) :
    (s.modRobot n f).partyRef = Function.update s.partyRef n (f e).party := by
  rw [State.modRobot, he]
  exact s.partyRef_putRobot n (f e)

/-- A change of an entry that leaves its party reference. -/
theorem State.partyRef_modRobot_same (s : State) (n : Nat) {f : Robot → Robot} (hf : ∀ e, (f e).party = e.party) :
    (s.modRobot n f).partyRef = s.partyRef := by
  cases he : s.robot n with
  | none => rw [State.modRobot, he]
  | some e =>
    have hparty : (f e).party = s.partyRef n := by rw [hf, State.partyRef, he, Option.bind_some]
    rw [State.partyRef_modRobot he, hparty, Function.update_eq_self]

/-- A robot that is party to nothing leaves the roster. -/
theorem State.partyRef_delRobot {s : State} {n : Nat} (hfree : s.partyRef n = none) :
    (s.modEngine fun g => { g with roster := g.roster.del n }).partyRef = s.partyRef := by
  funext m
  simp only [State.partyRef, State.robot, State.modEngine_engine, Table.look_del]
  by_cases hm : m = n
  · rw [if_pos hm, hm, Option.bind_none]
    exact hfree.symm
  · rw [if_neg hm]

/-! ## Operations that leave the roster -/

section
variable (s : State)

theorem State.modCell_roster (n : Nat) (f : Cell → Cell) : (s.modCell n f).engine.roster = s.engine.roster := by
  rw [State.modCell_eq_modify]
  rfl

@[simp] theorem State.modPlan_roster (n : Nat) (f : Plan → Plan) : (s.modPlan n f).engine.roster = s.engine.roster := by
  rw [State.modPlan_eq_modify]
  rfl

@[simp] theorem State.putRecord_roster (slot : Nat) (r : Record) :
    (s.putRecord slot r).engine.roster = s.engine.roster := rfl

@[simp] theorem State.post_roster (q : QueueId) (n : Notice) : (s.post q n).engine.roster = s.engine.roster := rfl

@[simp] theorem State.countEvent_roster (e : EventKind) (zone amount : Nat) :
    (s.countEvent e zone amount).engine.roster = s.engine.roster := rfl

@[simp] theorem State.roster_ite (c : Prop) [Decidable c] (t : State) :
    (if c then s else t).engine.roster = if c then s.engine.roster else t.engine.roster :=
  apply_ite (fun x : State => x.engine.roster) c s t

@[simp] theorem State.priorityChange_roster (h : Handle) (priority : Nat) :
    (s.priorityChange h priority).engine.roster = s.engine.roster := rfl

@[simp] theorem State.maskChange_roster (h : Handle) (old new : Byte) (priority : Nat) (seq : Word) :
    (s.maskChange h old new priority seq).engine.roster = s.engine.roster := by
  unfold State.maskChange
  split <;> rfl

@[simp] theorem State.closeCheck_roster (n : Nat) : (s.closeCheck n).engine.roster = s.engine.roster := by
  unfold State.closeCheck
  split
  · rfl
  · split <;> rfl

@[simp] theorem State.unstack_roster (n : Nat) (h : Handle) : (s.unstack n h).engine.roster = s.engine.roster := by
  rw [State.unstack_eq]

theorem State.endBooking_roster (h : Handle) (r : Record) (carrier k : Nat) (lapsed : Option Nat) :
    (s.endBooking h r carrier k lapsed).engine.roster = s.engine.roster :=
  (State.closeCheck_roster _ _).trans (State.modCell_roster (s.disarm h) _ _)

theorem State.bookRecord_roster (n : Nat) (l : Link) (h : Handle) (r : Record) (k : Nat) (receiver : Option Nat)
    (m : Option (Nat × Rule)) : (s.bookRecord n l h r k receiver m).engine.roster = s.engine.roster := by
  simp only [State.bookRecord, State.startTiming_eq, State.closeCheck_roster]
  exact State.modCell_roster _ _ _

theorem State.visit_roster (slot : Nat) : (s.visit slot).engine.roster = s.engine.roster := by
  unfold State.visit
  split
  · rfl
  · simp

theorem State.rescue_roster (h : Handle) (r : Record) (k : Nat) (p : Plan) :
    (s.rescue h r k p).engine.roster = s.engine.roster := by
  have hplans : ((match r.route with
      | some route => s.planDown route.plan
      | none => s).planUp k).engine.roster = s.engine.roster := by
    rw [State.planUp, State.modPlan_roster]
    cases r.route with
    | none => rfl
    | some route => exact s.modPlan_roster _ _
  simp only [State.rescue, State.post_roster]
  split
  · simp only [State.roster_ite, State.maskChange_roster, State.putRecord_roster, ite_self]
    exact hplans
  · exact hplans

@[simp] theorem State.decideRescue_roster (h : Handle) (r : Record) :
    (s.decideRescue h r).engine.roster = s.engine.roster := by
  unfold State.decideRescue
  split
  · rfl
  split
  · rfl
  split
  · rfl
  · exact s.rescue_roster _ _ _ _

theorem State.overdueTaken_roster (h : Handle) : (s.overdueTaken h).engine.roster = s.engine.roster := by
  unfold State.overdueTaken
  split
  · rfl
  · simp

end

end Sys2Proof.Machine
end

section
/-! SUPPORT. What every change does to the parties: it leaves them, or pairs or parts one robot and one record. -/

namespace Sys2Proof.Machine

/-- A rescue switch keeps a record's party (R128 to R131). -/
theorem Custody.partyRole_rescued (c : Custody) (mask : Byte) : (c.rescued mask).partyRole = c.partyRole := by
  cases c <;> rfl

/-! ## One robot and one record -/

section
variable {s t : State} {n : Nat} {h : Handle} {r r' : Record} {role : Role} {list : List Deadline} {plans : Table Plan}

theorem State.PartiesMutual.of_eq (hs : s.PartiesMutual) (hrefs : t.partyRef = s.partyRef) (hnamed : t.partyOf = s.partyOf) :
    t.PartiesMutual := by
  rw [State.PartiesMutual, hrefs, hnamed]
  exact hs

/-- A record is written with the party it had, and every robot keeps its reference. -/
theorem State.PartiesMutual.rewritten_same (hs : s.PartiesMutual) (hrec : s.recordOf h = some r)
    (ht : t.tables = (s.rewritten h.slot r' list plans).tables)
    (hrole : r'.custody.partyRole = r.custody.partyRole) (hroster : t.engine.roster = s.engine.roster) :
    t.PartiesMutual :=
  hs.of_eq (State.partyRef_congr hroster) (State.partyOf_rewritten_same hrec hrole ht)

/-- A record is written with a party, or with none, and that robot's reference with it. -/
theorem State.PartiesMutual.rewritten (hs : s.PartiesMutual) (hpair : Pairable s.partyRef s.partyOf n h)
    (role : Option Role) (hrec : s.recordOf h = some r) (hrole : r'.custody.partyRole = role.map fun x => (n, x))
    (ht : t.tables = (s.rewritten h.slot r' list plans).tables)
    (hrefs : t.partyRef = Function.update s.partyRef n (role.map fun x => (h, x))) : t.PartiesMutual := by
  rw [State.PartiesMutual, hrefs, State.partyOf_rewritten hrec ht, hrole]
  exact Mutual.update hs hpair role

/-- The party of a live record is enrolled and may only be paired with it. -/
theorem State.PartiesMutual.of_named (hs : s.PartiesMutual) (hrec : s.recordOf h = some r)
    (hrole : r.custody.partyRole = some (n, role)) :
    Pairable s.partyRef s.partyOf n h ∧ ∃ e, s.robot n = some e ∧ e.party = some (h, role) := by
  have hnamed := (State.partyOf_of_recordOf hrec).trans hrole
  exact ⟨Mutual.pairable_of_named hs hnamed, State.partyRef_eq_some.1 ((hs n h role).2 hnamed)⟩

end

/-! ## What the operations write in the roster -/

section
variable {s : State} {n : Nat} {e : Robot}

theorem State.partyRef_endClaim (he : s.robot n = some e) (h : Handle) (r : Record) (spot : Spot) (lapsed : Option Nat) :
    (s.endClaim h r spot n lapsed).partyRef = Function.update s.partyRef n none :=
  State.partyRef_modRobot (s := s.disarm h) he _

theorem State.partyRef_post (s : State) (q : QueueId) (x : Notice) : (s.post q x).partyRef = s.partyRef := rfl

theorem State.partyRef_countEvent (s : State) (x : EventKind) (zone amount : Nat) :
    (s.countEvent x zone amount).partyRef = s.partyRef := rfl

/-- What a lapse adds to the end of a claim leaves the party references (R91, R92). -/
theorem State.partyRef_claimLapse (he : s.robot n = some e) (h : Handle) (r : Record) (spot : Spot) :
    (s.claimLapse h r spot n).partyRef = Function.update s.partyRef n none := by
  rw [← State.partyRef_endClaim he h r spot (some n), State.claimLapse]
  split <;> simp only [State.partyRef_post, State.partyRef_countEvent, State.partyRef_modRobot_same, implies_true]

theorem State.partyRef_grant (he : s.robot n = some e) (l : Link) (h : Handle) (r : Record) (spot : Spot) :
    (s.grant n l h r spot).partyRef = Function.update s.partyRef n (some (h, .claimant)) := by
  refine Eq.trans (State.partyRef_congr ?_) (s.partyRef_putRobot n { e with party := some (h, .claimant) })
  rw [State.grant_eq s n l h r spot e he]
  rfl

theorem State.partyRef_stageRecord (he : s.robot n = some e) (h : Handle) (r : Record) (k : Nat) (receiver : Option Nat)
    (mask : Byte) : (s.stageRecord h r n k receiver mask).partyRef = Function.update s.partyRef n none := by
  rw [State.stageRecord_eq, ← State.partyRef_modRobot he fun e => { e with party := none }, State.modRobot_eq_modify]
  rfl

theorem State.partyRef_takeupRecord (he : s.robot n = some e) (h : Handle) (r : Record) (spot : Spot) :
    (s.takeupRecord h r spot n).partyRef = Function.update s.partyRef n (some (h, .carrier)) := by
  refine Eq.trans (State.partyRef_congr ?_)
    (State.partyRef_modRobot (s := s.disarm h) he fun e => { e with party := some (h, .carrier), misses := 0 })
  simp only [State.takeupRecord, State.closeCheck_roster, State.countEvent_roster, State.unstack_roster,
    State.putRecord_roster]

theorem State.partyRef_openRecord (he : s.robot n = some e) (slot : Nat) (r : Record) :
    (s.openRecord n slot r).partyRef = Function.update s.partyRef n (some (s.handleOf slot, .carrier)) := by
  rw [State.openRecord_eq, ← State.partyRef_modRobot he fun e => { e with party := some (s.handleOf slot, .carrier) },
    State.modRobot_eq_modify]
  rfl

theorem State.retire_roster (s : State) (h : Handle) (r : Record) :
    (s.retire h r).engine.roster = rosterFreed s.engine.roster r.custody.party := by
  rw [State.retire_eq]
  dsimp only
  split
  · exact State.closeCheck_roster _ _
  · rfl

theorem State.partyRef_retire_none {r : Record} (hparty : r.custody.party = none) (h : Handle) :
    (s.retire h r).partyRef = s.partyRef := by
  refine State.partyRef_congr ?_
  rw [State.retire_roster, hparty, rosterFreed]

/-- A retirement frees the party (R23). -/
theorem State.partyRef_retire_some {r : Record} (he : s.robot n = some e) (hparty : r.custody.party = some n) (h : Handle) :
    (s.retire h r).partyRef = Function.update s.partyRef n none := by
  rw [← State.partyRef_modRobot he fun e => { e with party := none }]
  refine State.partyRef_congr ?_
  rw [State.retire_roster, hparty, State.modRobot_eq_modify]
  rfl

end

/-! ## The changes -/

theorem State.Quiet.partiesMutual {s t : State} (h : s.Quiet t) (hs : s.PartiesMutual) : t.PartiesMutual :=
  hs.of_eq (State.partyRef_congr h.roster) (State.partyOf_congr h.tables)

theorem State.PartiesMutual.alignHold {s : State} (hs : s.PartiesMutual) (slot : Nat) (up : Bool) :
    (s.alignHold slot up).PartiesMutual := by
  refine hs.of_eq (State.partyRef_congr ?_) (s.partyOf_alignHold slot up)
  obtain ⟨records, list, h⟩ := s.alignHold_eq slot up
  rw [h]

/-- A retired record has no party any more, and its party refers to nothing (R23). -/
theorem State.PartiesMutual.retire {s : State} (hs : s.PartiesMutual) {h : Handle} {r : Record}
    (hrec : s.recordOf h = some r) : (s.retire h r).PartiesMutual := by
  have hnamed : (s.retire h r).partyOf = Function.update s.partyOf h none :=
    (State.partyOf_congr (s.side_retire h r).tables).trans (State.partyOf_of_update (State.recordOf_removed hrec))
  cases hrole : r.custody.partyRole with
  | none =>
    have hparty : r.custody.party = none := by rw [Custody.party_eq, hrole, Option.map_none]
    refine hs.of_eq (State.partyRef_retire_none hparty h) ?_
    rw [hnamed, ← hrole, ← State.partyOf_of_recordOf hrec, Function.update_eq_self]
  | some named =>
    obtain ⟨n, role⟩ := named
    have hparty : r.custody.party = some n := by rw [Custody.party_eq, hrole, Option.map_some]
    obtain ⟨hpair, e, he, -⟩ := hs.of_named hrec hrole
    rw [State.PartiesMutual, State.partyRef_retire_some he hparty h, hnamed]
    exact Mutual.update hs hpair none

/-- Every change keeps the references both ways: what a command's checks have established leaves the robot and the record
free for one another, or paired already. -/
theorem State.Change.partiesMutual {s t : State} (h : s.Change t) (hslot : s.slotLaw) (hs : s.PartiesMutual) :
    t.PartiesMutual := by
  cases h with
  | none => exact hs
  | declared n bin zone prio slot cls plan wave m notice rest hrobot _ _ _ _ hfree hm =>
    obtain ⟨e, he, hparty⟩ := hrobot
    obtain ⟨-, -, -, -, -, -, hfrees, -⟩ := hslot
    have hnone : s.engine.records.look slot = Option.none := ((hfrees slot).1 (by rw [hfree]; simp)).2
    have hrule := s.quiet_takeRule m hm notice false
    have hhandle : (s.takeRule m notice false).handleOf slot = s.handleOf slot := by
      simp only [State.handleOf, State.generation, hrule.gens]
    have hfreeRobot : s.partyRef n = Option.none := by rw [State.partyRef, he, Option.bind_some, hparty]
    have hfreeSlot : s.partyOf (s.handleOf slot) = Option.none := by
      rw [State.partyOf, State.recordOf_handleOf, hnone, Option.bind_none]
    have hrefs := State.partyRef_openRecord ((hrule.robot n).trans he) slot (newRecord s n bin cls zone plan wave prio m)
    have hnamed := (State.partyOf_congr (State.side_openRecord (s.takeRule m notice false) n slot
      (newRecord s n bin cls zone plan wave prio m)).tables).trans (State.partyOf_of_update (State.recordOf_added _ _ _))
    rw [hhandle, State.partyRef_congr hrule.roster] at hrefs
    rw [hhandle, State.partyOf_congr hrule.tables] at hnamed
    rw [State.PartiesMutual, hrefs, hnamed]
    exact Mutual.update hs (pairable_of_free hfreeRobot hfreeSlot) (some .carrier)
  | booked n k l h r c lapsed receiver m notice hlast hrec hcustody _ _ _ hm =>
    have hrule := s.quiet_takeRule m hm notice false
    exact (hrule.partiesMutual hs).rewritten_same ((hrule.recordOf h).trans hrec)
      (State.side_bookRecord _ h r n l k receiver m).tables (by rw [hcustody]; rfl) (State.bookRecord_roster _ _ _ _ _ _ _ _)
  | bookingEnded h r carrier k receiver ov timing lapsed hrec hcustody =>
    exact hs.rewritten_same hrec (s.side_endBooking _ _ _ _ _).tables (by rw [hcustody]; rfl)
      (s.endBooking_roster _ _ _ _ _)
  | staged h r carrier k receiver ov timing hrec hcustody =>
    obtain ⟨hpair, e, he, -⟩ := hs.of_named hrec (by rw [hcustody]; rfl)
    exact hs.rewritten hpair Option.none hrec rfl (s.side_stageRecord _ _ _ _ _ _).tables
      (State.partyRef_stageRecord he _ _ _ _ _)
  | granted n l h r spot lapsed hlast hfree hrec hcustody =>
    obtain ⟨e, he, -⟩ := hlast
    have hpair : Pairable s.partyRef s.partyOf n h := pairable_of_free
      (by rw [State.partyRef, he, Option.bind_some, hfree e he])
      (by rw [State.partyOf_of_recordOf hrec, hcustody]; rfl)
    exact hs.rewritten hpair (some .claimant) hrec rfl (s.side_grant _ _ _ _ _).tables (State.partyRef_grant he _ _ _ _)
  | claimEnded h r spot claimant timing hrec hcustody =>
    obtain ⟨hpair, e, he, -⟩ := hs.of_named hrec (by rw [hcustody]; rfl)
    exact hs.rewritten hpair Option.none hrec rfl (s.side_endClaim _ _ _ _ _).tables (State.partyRef_endClaim he _ _ _ _)
  | claimLapsed h r spot claimant timing hrec hcustody =>
    obtain ⟨hpair, e, he, -⟩ := hs.of_named hrec (by rw [hcustody]; rfl)
    exact hs.rewritten hpair Option.none hrec rfl (s.side_claimLapse _ _ _ _).tables (State.partyRef_claimLapse he _ _ _)
  | takenUp h r spot claimant timing hrec hcustody =>
    obtain ⟨hpair, e, he, -⟩ := hs.of_named hrec (by rw [hcustody]; rfl)
    exact hs.rewritten hpair (some .carrier) hrec rfl (s.side_takeupRecord _ _ _ _).tables
      (State.partyRef_takeupRecord he _ _ _)
  | retired h r hrec => exact hs.retire hrec
  | visited slot =>
    cases hr : s.engine.records.look slot with
    | none => simp only [State.visit, hr]; exact hs
    | some r =>
      exact hs.rewritten_same ((s.recordOf_handleOf slot).trans hr) (State.side_visit s hr).tables rfl (s.visit_roster slot)
  | overdue h =>
    cases hr : s.recordOf h with
    | none => simp only [State.overdueTaken, hr]; exact hs
    | some r =>
      rcases State.side_overdueTaken hr with hside | ⟨k, p, -, hside⟩
      · exact hs.rewritten_same hr hside.tables rfl (s.overdueTaken_roster h)
      · exact hs.rewritten_same hr hside.tables (r.custody.partyRole_rescued _)
          (s.overdueTaken_roster h)
  | linkTurned l up f _ _ =>
    have hturned : (s.modPorts fun p => p.modLink l f).PartiesMutual := hs
    exact State.alignLink_induction (P := State.PartiesMutual) (fun s slot up h => h.alignHold slot up) hturned l up
  | cellWritten | cellDeleted | cellReopened | planWritten | planCleared | millisecond => exact hs
  | cellDrained n c admissions hc =>
    exact hs.of_eq (State.partyRef_congr (State.closeCheck_roster _ _)) (State.partyOf_congr
      ((s.side_putCell (c' := { c with state := .draining, admissions := admissions }) hc rfl).trans
        (State.side_closeCheck _ _)).tables)
  | robotEnrolled n group hnew =>
    exact hs.of_eq (State.partyRef_putRobot_same (by rw [State.partyRef, hnew, Option.bind_none])) rfl
  | robotWritten n e e' he hparty _ =>
    exact hs.of_eq (State.partyRef_putRobot_same (by rw [State.partyRef, he, Option.bind_some, hparty])) rfl
  | robotWithdrawn n e he hparty =>
    exact hs.of_eq (State.partyRef_delRobot (by rw [State.partyRef, he, Option.bind_some, hparty])) rfl
  | expiryRaised =>
    unfold State.raiseExpiry
    split <;> exact hs
  | deviceReset =>
    obtain ⟨-, -, -, -, hparty, -⟩ := resetMeetsLaws.1
    exact s.quiet_deviceReset.partiesMutual ((State.partyLaw_iff rfl).1 hparty)

/-! ## After a step -/

/-- A robot heard on a link keeps its party, and its record, brought into line, keeps its own (R50). -/
theorem State.PartiesMutual.linkUpdate {s : State} (hs : s.PartiesMutual) {n : Nat} {e : Robot} (he : s.robot n = some e)
    (l : Link) : (s.linkUpdate n l e).PartiesMutual := by
  have hheard : (s.heard n l e).PartiesMutual :=
    hs.of_eq (State.partyRef_putRobot_same (by rw [State.partyRef, he, Option.bind_some])) rfl
  cases hparty : e.party with
  | none => rw [State.linkUpdate_of_none hparty]; exact hheard
  | some named => rw [State.linkUpdate_of_party hparty]; exact hheard.alignHold _ _

theorem State.slotLaw_linkUpdate {s : State} (hs : s.slotLaw) (n : Nat) (l : Link) (e : Robot) :
    (s.linkUpdate n l e).slotLaw := by
  have hheard : (s.heard n l e).slotLaw := hs
  cases hparty : e.party with
  | none => rw [State.linkUpdate_of_none hparty]; exact hheard
  | some named =>
    rw [State.linkUpdate_of_party hparty]
    exact (State.alignHold_tables _ _ _).slotLaw hheard

theorem step_partiesMutual {s t : State} (hslot : s.slotLaw) (hs : s.PartiesMutual) (hstep : step s = .next t) :
    t.PartiesMutual :=
  step_establishes (P := fun s => s.slotLaw ∧ s.PartiesMutual) (Q := State.PartiesMutual)
    (fun _ _ hq ⟨hslot, hu⟩ => ⟨State.slotLaw_congr hq.tables hslot, hq.partiesMutual hu⟩)
    (fun _ n l e he ⟨hslot, hu⟩ => ⟨State.slotLaw_linkUpdate hslot n l e, hu.linkUpdate he l⟩)
    (fun _ _ hc ⟨hslot, hu⟩ => hc.partiesMutual hslot hu) (fun _ _ hq => hq.partiesMutual) hstep ⟨hslot, hs⟩

/-- Settles O21. The law says that references go both ways, and every change of a step pairs or parts one robot and one
record on both sides at once, or leaves both sides. -/
theorem stepKeepsPartyLaw : Obligations.StepKeepsPartyLaw := by
  intro s t hlaws hstep
  obtain ⟨hslot, -, -, -, hparty, -⟩ := hlaws
  have hslot' : t.slotLaw := stepKeepsSlotLaw s t hslot hstep
  exact (State.partyLaw_iff hslot'.1).2 (step_partiesMutual hslot ((State.partyLaw_iff hslot.1).1 hparty) hstep)

end Sys2Proof.Machine
end

section
/-! SUPPORT. The roster requests: their checks in order, and the roster entries they answer with. -/

namespace Sys2Proof.Machine

/-! ## How a roster request begins -/

/-- A robot number has no roster entry when it is 0 or above 1023 (R81). -/
theorem robotInRange_eq_false_iff (n : Nat) : robotInRange n = false ↔ n = 0 ∨ 1023 < n := by
  rw [← Bool.not_eq_true]
  simp only [robotInRange, Bool.and_eq_true, decide_eq_true_eq]
  omega

/-- How the requests about an enrolled robot begin: a number out of range, then a robot that is not enrolled (R87 to R89). -/
def onRobot (n : Nat) (s : State) (act : Robot → State × Answer) : State × Answer :=
  if n = 0 ∨ 1023 < n then (s, refuse .badField)
  else match s.robot n with
    | none => withEntry s n .unknownRobot
    | some e => act e

section
variable {s : State} {n : Nat} {act : Robot → State × Answer}

theorem onRobot_of_range (hrange : n = 0 ∨ 1023 < n) : onRobot n s act = (s, refuse .badField) := if_pos hrange

theorem onRobot_of_unenrolled (hrange : ¬ (n = 0 ∨ 1023 < n)) (hrobot : s.robot n = none) :
    onRobot n s act = withEntry s n .unknownRobot := by
  rw [onRobot, if_neg hrange, hrobot]

theorem onRobot_of_enrolled {e : Robot} (hrange : ¬ (n = 0 ∨ 1023 < n)) (hrobot : s.robot n = some e) :
    onRobot n s act = act e := by
  rw [onRobot, if_neg hrange, hrobot]

end

/-- What follows when a request begins so: the two refusals, and what it does with an enrolled robot. -/
theorem exec_onRobot {s u : State} {c : Instr} {f : Frame} {own : State → State × Answer} {n : Nat}
    {act : Robot → State × Answer} {does : Robot → Prop} (hexec : exec c s = .next (s.serve c (hostService own)))
    (ht : s.hostTakes c f u) (hown : own u = onRobot n u act)
    (hdoes : ∀ e, u.robot n = some e → own u = act e → does e) :
    if n = 0 ∨ 1023 < n then exec c s = .next (u.respond f ⟨.badField, [[]]⟩)
    else
      (u.robot n = none → exec c s = .next (u.respond f ⟨.unknownRobot, [rosterBlock u n]⟩)) ∧
      ∀ e, u.robot n = some e → does e := by
  split
  · next hbad => exact exec_host hexec ht (hown.trans (onRobot_of_range hbad))
  · next hgood =>
    exact ⟨fun hrobot => exec_host hexec ht (hown.trans (onRobot_of_unenrolled hgood hrobot)),
      fun e hrobot => hdoes e hrobot (hown.trans (onRobot_of_enrolled hgood hrobot))⟩

section
variable (robot : Half) (s : State)

theorem robotWithdrawRequest_eq :
    robotWithdrawRequest robot s = onRobot robot.toNat s fun e =>
      if e.party.isSome then withEntry s robot.toNat .inCustody
      else withEntry (s.modEngine fun g => { g with roster := g.roster.del robot.toNat }) robot.toNat .ok := by
  simp only [robotWithdrawRequest, Bool.not_eq_true', robotInRange_eq_false_iff]
  rfl

theorem robotSuspendRequest_eq :
    robotSuspendRequest robot s = onRobot robot.toNat s fun e =>
      withEntry (s.putRobot robot.toNat { e with suspended := true }) robot.toNat .ok := by
  simp only [robotSuspendRequest, Bool.not_eq_true', robotInRange_eq_false_iff]
  rfl

theorem robotResumeRequest_eq :
    robotResumeRequest robot s = onRobot robot.toNat s fun e =>
      withEntry (s.putRobot robot.toNat { e with suspended := false, misses := 0 }) robot.toNat .ok := by
  simp only [robotResumeRequest, Bool.not_eq_true', robotInRange_eq_false_iff]
  rfl

theorem robotReadRequest_eq :
    robotReadRequest robot s =
      if robot.toNat = 0 ∨ 1023 < robot.toNat then (s, refuse .badField) else withEntry s robot.toNat .ok := by
  simp only [robotReadRequest, Bool.not_eq_true', robotInRange_eq_false_iff]

end

/-! ## ROBOT-ENROL -/

/-- The entry that ROBOT-ENROL writes: a new one, or the one there is with the group (R86). -/
def enrolledEntry (old : Option Robot) (group : Nat) : Robot :=
  match old with
  | none => ⟨false, group, none, none, 0⟩
  | some e => { e with group := group }

theorem robotEnrolRequest_eq (robot : Half) (group : Byte) (s : State) :
    robotEnrolRequest robot group s =
      if robot.toNat = 0 ∨ 1023 < robot.toNat ∨ 7 < group.toNat then (s, refuse .badField)
      else withEntry (s.putRobot robot.toNat (enrolledEntry (s.robot robot.toNat) group.toNat)) robot.toNat .ok := by
  have hbad : (!robotInRange robot.toNat || decide (group.toNat > 7)) = true ↔
      robot.toNat = 0 ∨ 1023 < robot.toNat ∨ 7 < group.toNat := by
    rw [Bool.or_eq_true, Bool.not_eq_true', robotInRange_eq_false_iff, decide_eq_true_eq, or_assoc]
  simp only [robotEnrolRequest, hbad]
  cases s.robot robot.toNat <;> rfl

/-! ## The roster entry block -/

/-- The block of a robot that is not enrolled, with two free bytes (R90, R203; log 8). -/
theorem rosterBlock_of_unenrolled {s : State} {robot : Half} (hrobot : s.robot robot.toNat = none) :
    ∃ x y, rosterBlock s robot.toNat =
      be16 robot ++ [0, 0, 255, 255, 255, 255, x, y, 0, byteOf s.engine.missLimit] := by
  have hfield : halfOf robot.toNat = robot := by simp [halfOf]
  refine ⟨Config.unstatedByte s.draw 0, Config.unstatedByte s.draw 1, ?_⟩
  simp only [rosterBlock, hrobot, hfield]
  rfl

/-- The block of an enrolled robot, but for the two bytes about its record (R90, R203). -/
theorem rosterBlock_of_enrolled {s : State} {robot : Half} {e : Robot} (hrobot : s.robot robot.toNat = some e) :
    rosterBlock s robot.toNat = entryBytes robot e (partyBytes s e.party) s.engine.missLimit := by
  have hfield : halfOf robot.toNat = robot := by simp [halfOf]
  simp only [rosterBlock, hrobot, hfield]
  rfl

theorem partyBytes_of_named {s : State} {h : Handle} {role : Role} {r : Record} (hrec : s.recordOf h = some r) :
    partyBytes s (some (h, role)) = [r.custody.state.code, if r.custody.isHeld then 1 else 0] := by
  simp only [partyBytes, Option.bind_some, hrec, boolByte_eq]

/-- Settles O34. Each request begins with its checks; the entry it answers with is the one it has written. -/
theorem rosterRequests : Obligations.RosterRequests := by
  refine ⟨fun s hd robot f u => ⟨fun group htakes => ?enrol, fun htakes => ?withdraw⟩,
    fun s hd f u => ⟨fun robot resume => ?suspend, fun limit htakes => ?missLimit⟩, fun s hd robot f u htakes => ?read⟩
  case enrol =>
    have hown : ∀ {w a}, robotEnrolRequest robot group u = (w, a) → _ :=
      exec_host (c := .robotEnrol hd robot group) rfl htakes
    rw [robotEnrolRequest_eq] at hown
    split
    · next hbad => exact hown (if_pos hbad)
    · next hgood => exact hown (if_neg hgood)
  case withdraw =>
    have hown : ∀ {w a}, robotWithdrawRequest robot u = (w, a) → _ := exec_host (c := .robotWithdraw hd robot) rfl htakes
    rw [robotWithdrawRequest_eq] at hown
    split
    · next hbad => exact hown (onRobot_of_range hbad)
    next hgood =>
    cases hrobot : u.robot robot.toNat with
    | none => exact hown (onRobot_of_unenrolled hgood hrobot)
    | some e =>
      rw [onRobot_of_enrolled hgood hrobot] at hown
      dsimp only [Option.isNone_some, Option.bind_some]
      rw [if_neg Bool.false_ne_true]
      split
      · next hparty => exact hown (if_pos hparty)
      · next hparty => exact ⟨(Table.look_del _ _ _).trans (if_pos rfl), hown (if_neg hparty)⟩
  case suspend =>
    cases resume with
    | false =>
      exact fun htakes => exec_onRobot (c := .robotSuspend hd robot) rfl htakes (robotSuspendRequest_eq robot u)
        fun e _ hown => exec_host rfl htakes hown
    | true =>
      exact fun htakes => exec_onRobot (c := .robotResume hd robot) rfl htakes (robotResumeRequest_eq robot u)
        fun e _ hown => exec_host rfl htakes hown
  case missLimit =>
    have hown : ∀ {w a}, missLimitRequest limit u = (w, a) → _ := exec_host (c := .missLimit hd limit) rfl htakes
    split
    · next hbad => exact hown (if_pos hbad)
    · next hgood => exact hown (if_neg hgood)
  case read =>
    have hown : ∀ {w a}, robotReadRequest robot u = (w, a) → _ := exec_host (c := .robotRead hd robot) rfl htakes
    rw [robotReadRequest_eq] at hown
    intro n out
    split
    · next hbad => exact hown (if_pos hbad)
    next hgood =>
    rw [if_neg hgood, withEntry] at hown
    refine ⟨fun hrobot => ?_, fun e hrobot => ?_⟩
    · obtain ⟨x, y, hblock⟩ := rosterBlock_of_unenrolled hrobot
      exact ⟨x, y, hown (by rw [hblock])⟩
    · rw [rosterBlock_of_enrolled hrobot] at hown
      refine ⟨fun hparty => ⟨_, _, hown (by rw [hparty]; rfl)⟩, fun h role r hparty hrec => hown ?_⟩
      rw [hparty, partyBytes_of_named hrec]

end Sys2Proof.Machine
end

section
/-! SUPPORT. The claim lapse written out block by block. -/

namespace Sys2Proof.Machine

/-! ## Changes of a robot after others -/

section
variable (s : State) (n : Nat) (f : Robot → Robot)

/-- Posting, counting and changing a robot's entry may change places. -/
theorem State.modRobot_post (q : QueueId) (x : Notice) : (s.post q x).modRobot n f = (s.modRobot n f).post q x := by
  rw [State.modRobot_eq_modify, State.modRobot_eq_modify]
  rfl

theorem State.modRobot_countEvent (x : EventKind) (zone amount : Nat) :
    (s.countEvent x zone amount).modRobot n f = (s.modRobot n f).countEvent x zone amount := by
  rw [State.modRobot_eq_modify, State.modRobot_eq_modify]
  rfl

theorem State.modRobot_enter (h : Handle) (mask : Byte) (priority : Nat) (seq : Word) :
    (s.enter h mask priority seq).modRobot n f = (s.modRobot n f).enter h mask priority seq := by
  rw [State.modRobot_eq_modify, State.modRobot_eq_modify]
  rfl

end

/-! ## A claim lapse -/

/-- A CLAIMED record STAGED in place and in its queues again, without a deadline, and the entry of its former claimant
written (R72, R143). -/
def State.unclaimed (s : State) (h : Handle) (r : Record) (spot : Spot) (n : Nat) (e : Robot) : State :=
  State.enter
    { s with
      engine :=
        { s.engine with
          records := s.engine.records.put h.slot { r with custody := .staged spot (some n) }
          roster := s.engine.roster.put n e }
      timer := { s.timer with list := s.timer.list.filter fun d => d.handle ≠ h } } h spot.mask r.priority spot.seq

theorem State.modRobot_unclaimed (s : State) (h : Handle) (r : Record) (spot : Spot) (n : Nat) (e : Robot)
    (f : Robot → Robot) : (s.unclaimed h r spot n e).modRobot n f = s.unclaimed h r spot n (f e) := by
  have hroster : (s.engine.roster.put n e).modify n f = s.engine.roster.put n (f e) := by
    rw [Table.modify_of_look (Table.look_put_self _ _ _), Table.put_put]
  rw [State.unclaimed, State.modRobot_enter, State.modRobot_eq_modify]
  simp only [State.modEngine, hroster]
  rfl

/-- The two notices of a claim lapse (R143, R144). -/
def lapseNotice (kind : NoticeKind) (h : Handle) (r : Record) (n k zone misses : Nat) : Notice :=
  ⟨kind, 0, some h, some r.bin, some n, some k, some zone, byteOf misses⟩

/-- A lapse suspends an ACTIVE robot whose misses reach a limit above 0 (R92). -/
theorem suspends_iff (limit : Nat) (e : Robot) :
    suspends limit (some e) = true ↔ limit ≠ 0 ∧ limit ≤ min 7 (e.misses + 1) ∧ e.suspended = false := by
  have hmisses : missesAfter (some e) = min 7 (e.misses + 1) := rfl
  rw [← hmisses]
  simp only [suspends, Option.any_some, Bool.and_eq_true, bne_iff_ne, decide_eq_true_eq, Bool.not_eq_true', and_assoc]

/-- The whole of what a claim lapse writes (R91, R92, R143, R144). -/
theorem State.claimLapse_eq {s : State} {h : Handle} {r : Record} {spot : Spot} {n : Nat} {c : Cell} {e : Robot}
    (hcell : s.cell spot.cell = some c) (hrobot : s.robot n = some e) :
    s.claimLapse h r spot n =
      let misses := min 7 (e.misses + 1)
      let suspended := suspends s.engine.missLimit (some e)
      let w := s.unclaimed h r spot n
        { e with party := none, misses := misses, suspended := e.suspended || suspended }
      let t := (w.post .timing (lapseNotice .claimLapsed h r n spot.cell c.zone misses)).countEvent .claimLapsed
        r.presentZone 0
      if suspended then t.post .custody (lapseNotice .robotSuspended h r n spot.cell c.zone misses) else t := by
  have hzone : s.cellZone spot.cell = c.zone := by simp only [State.cellZone, hcell, Option.map_some, Option.getD_some]
  have hended : s.endClaim h r spot n (some n) = s.unclaimed h r spot n { e with party := none } :=
    State.endClaim_eq hrobot h r spot (some n)
  simp only [State.claimLapse, hrobot, hended, hzone, State.modRobot_countEvent, State.modRobot_post,
    State.modRobot_unclaimed]
  cases hsuspends : suspends s.engine.missLimit (some e) with
  | true => simp only [Bool.or_true, if_true]; rfl
  | false => simp only [Bool.or_false, Bool.false_eq_true, if_false]; rfl

/-! ## The expiry -/

/-- An expiry that is taken leaves the events raised, and the record it names may lapse (R140). -/
theorem State.takeExpiry_eq {s : State} {i : Nat} {x : Expiry} (hmode : s.engine.mode ≠ .flushing)
    (hx : s.engine.expiries[i]? = some x) :
    s.takeExpiry i = (s.modEngine fun e => { e with expiries := e.expiries.eraseIdx i }).lapse x := by
  simp only [State.takeExpiry, if_neg hmode, hx]

/-- An expiry that meets a claim of its instant makes the claim lapse (R140). -/
theorem State.lapse_claim {s : State} {x : Expiry} {r : Record} {spot : Spot} {n : Nat}
    (hrec : s.recordOf x.handle = some r) (hkind : x.kind = .claim)
    (hcustody : r.custody = .claimed spot n (.armed x.instant)) : s.lapse x = s.claimLapse x.handle r spot n := by
  simp only [State.lapse, hrec, hcustody, hkind, if_true]

/-- Settles O46. The expiry meets the claim, and `State.claimLapse_eq` says what its lapse writes. -/
theorem expiryLapsesClaim : Obligations.ExpiryLapsesClaim := by
  intro s i x hmode hx v h r spot n c e hrec hkind hcustody hcell hrobot misses suspended notice w t
  have hlapse : s.takeExpiry i = v.claimLapse h r spot n :=
    (State.takeExpiry_eq hmode hx).trans (State.lapse_claim hrec hkind hcustody)
  have hsuspends : suspends v.engine.missLimit (some e) = decide suspended := by
    rw [Bool.eq_iff_iff, suspends_iff, decide_eq_true_iff]
  rw [State.claimLapse_eq hcell hrobot] at hlapse
  simp only [hsuspends, decide_eq_true_eq] at hlapse
  exact congrArg Host.Outcome.next hlapse

end Sys2Proof.Machine
end

section
/-! SUPPORT. The pickup queues: their order, and what each of the four changes makes of each queue. -/

namespace Sys2Proof.Machine

/-! ## Putting a queue in order -/

theorem pickupLe_total (counter : Word) (x y : PickupEntry) :
    pickupLe counter x y = true ∨ pickupLe counter y x = true := by
  rw [pickupLe_iff, pickupLe_iff]
  omega

theorem pickupLe_trans {counter : Word} {x y z : PickupEntry} (hxy : pickupLe counter x y = true)
    (hyz : pickupLe counter y z = true) : pickupLe counter x z = true := by
  rw [pickupLe_iff] at hxy hyz ⊢
  omega

theorem sortPickup_perm (counter : Word) (q : List PickupEntry) : (sortPickup counter q).Perm q :=
  List.perm_insertionSort _ q

theorem sortPickup_pairwise (counter : Word) (q : List PickupEntry) :
    (sortPickup counter q).Pairwise fun x y => pickupLe counter x y = true := by
  have htotal : Std.Total fun x y => pickupLe counter x y = true := ⟨pickupLe_total counter⟩
  have htrans : IsTrans PickupEntry fun x y => pickupLe counter x y = true := ⟨fun _ _ _ => pickupLe_trans⟩
  exact List.pairwise_insertionSort _ q

/-! ## One queue -/

theorem standsIn_iff {h : Handle} {q : List PickupEntry} : standsIn h q = true ↔ ∃ e ∈ q, e.handle = h := by
  simp [standsIn]

theorem standsIn_eq_false_iff {h : Handle} {q : List PickupEntry} : standsIn h q = false ↔ ∀ e ∈ q, e.handle ≠ h := by
  simp [standsIn]

section
variable (counter : Word) (h : Handle) (q : List PickupEntry)

/-- A queue with a record's entry rewritten to a priority (R98). -/
def repriced (h : Handle) (priority : Nat) (q : List PickupEntry) : List PickupEntry :=
  q.map fun e => if e.handle = h then { e with priority := priority } else e

theorem enterQueue_perm (e : PickupEntry) :
    (enterQueue counter e q).Perm (if standsIn e.handle q = false then e :: q else q) := by
  unfold enterQueue
  cases standsIn e.handle q
  · exact sortPickup_perm counter _
  · exact List.Perm.refl q

theorem leaveQueue_perm : (leaveQueue counter h q).Perm (q.filter fun e => e.handle ≠ h) := by
  unfold leaveQueue
  cases hstands : standsIn h q
  · have hall : ∀ e ∈ q, decide (e.handle ≠ h) = true := fun e he =>
      decide_eq_true (standsIn_eq_false_iff.1 hstands e he)
    rw [List.filter_eq_self.2 hall]
    exact List.Perm.refl q
  · exact sortPickup_perm counter _

theorem reprioritise_perm (priority : Nat) : (reprioritise counter h priority q).Perm (repriced h priority q) := by
  unfold reprioritise
  cases hstands : standsIn h q
  · have hsame : repriced h priority q = q :=
      (List.map_congr_left fun e he => if_neg (standsIn_eq_false_iff.1 hstands e he)).trans (List.map_id q)
    rw [hsame]
    exact List.Perm.refl q
  · exact sortPickup_perm counter _

/-- A queue is as it was, or in the order of R96 as the counter stands. -/
def KeptOrSorted (counter : Word) (q q' : List PickupEntry) : Prop :=
  q' = q ∨ q'.Pairwise fun x y => pickupLe counter x y = true

theorem KeptOrSorted.refl : KeptOrSorted counter q q := .inl rfl

theorem KeptOrSorted.ite {c : Prop} [Decidable c] {q' : List PickupEntry} (h : KeptOrSorted counter q q') :
    KeptOrSorted counter q (if c then q' else q) := by
  split
  · exact h
  · exact .refl counter q

theorem keptOrSorted_enterQueue (e : PickupEntry) : KeptOrSorted counter q (enterQueue counter e q) := by
  unfold enterQueue
  split
  · exact .refl counter q
  · exact .inr (sortPickup_pairwise counter _)

theorem keptOrSorted_leaveQueue : KeptOrSorted counter q (leaveQueue counter h q) :=
  KeptOrSorted.ite counter q (.inr (sortPickup_pairwise counter _))

theorem keptOrSorted_reprioritise (priority : Nat) : KeptOrSorted counter q (reprioritise counter h priority q) :=
  KeptOrSorted.ite counter q (.inr (sortPickup_pairwise counter _))

end

/-! ## The eight queues -/

theorem mem_groups {g : Nat} : g ∈ groups ↔ g < 8 := by
  simp only [groups, List.mem_cons, List.not_mem_nil, or_false]
  omega

/-- Changing the queues of some groups, one after the other, changes each of them by its own old content. -/
theorem lookD_foldl_putD (test : Nat → Bool) (f : List PickupEntry → List PickupEntry) (g : Nat) :
    ∀ (gs : List Nat) (t : Table (List PickupEntry)), gs.Nodup →
      (gs.foldl (fun t g => if test g then t.putD [] g (f (t.lookD [] g)) else t) t).lookD [] g =
        if g ∈ gs ∧ test g = true then f (t.lookD [] g) else t.lookD [] g := by
  intro gs
  induction gs with
  | nil => intro t _; simp
  | cons k gs ih =>
    intro t hnodup
    obtain ⟨hk, hgs⟩ := List.nodup_cons.1 hnodup
    have hfirst : Table.lookD [] (if test k then t.putD [] k (f (t.lookD [] k)) else t) g =
        if g = k ∧ test k = true then f (t.lookD [] g) else t.lookD [] g := by
      by_cases hg : g = k <;> cases htest : test k <;> simp [hg]
    rw [List.foldl_cons, ih _ hgs, hfirst]
    by_cases hg : g = k
    · subst hg
      simp [hk]
    · simp [hg]

section
variable (s : State) (h : Handle) {g : Nat} (hg : g < 8)
include hg

theorem State.queueOf_modQueues (test : Nat → Bool) (f : List PickupEntry → List PickupEntry) :
    (s.modQueues test f).queueOf g = if test g = true then f (s.queueOf g) else s.queueOf g := by
  have hall : groups.Nodup := by decide
  refine (lookD_foldl_putD test f g groups s.pickup hall).trans ?_
  simp only [mem_groups.2 hg, true_and]
  rfl

theorem State.queueOf_enter (mask : Byte) (priority : Nat) (seq : Word) :
    (s.enter h mask priority seq).queueOf g =
      if mask.getLsbD g = true then enterQueue s.engine.stageSeq ⟨h, priority, seq⟩ (s.queueOf g) else s.queueOf g :=
  s.queueOf_modQueues hg _ _

theorem State.queueOf_leave : (s.leave h).queueOf g = leaveQueue s.engine.stageSeq h (s.queueOf g) :=
  s.queueOf_modQueues hg _ _

theorem State.queueOf_priorityChange (priority : Nat) :
    (s.priorityChange h priority).queueOf g = reprioritise s.engine.stageSeq h priority (s.queueOf g) :=
  s.queueOf_modQueues hg _ _

/-- A mask change takes the record out of the queues of the old mask alone and puts it into those of the new alone; a group
is of one kind or of neither. -/
theorem State.queueOf_maskChange {k : Nat} (hk : k < 8) (hstands : standsIn h (s.queueOf k) = true) (old new : Byte)
    (priority : Nat) (seq : Word) :
    (s.maskChange h old new priority seq).queueOf g =
      if old.getLsbD g = true ∧ new.getLsbD g = false then leaveQueue s.engine.stageSeq h (s.queueOf g)
      else if new.getLsbD g = true ∧ old.getLsbD g = false then
        enterQueue s.engine.stageSeq ⟨h, priority, seq⟩ (s.queueOf g)
      else s.queueOf g := by
  have hany : (groups.any fun k => standsIn h (s.queueOf k)) = true := List.any_eq_true.2 ⟨k, mem_groups.2 hk, hstands⟩
  rw [State.maskChange, if_pos hany, State.queueOf_modQueues _ hg, State.queueOf_modQueues _ hg]
  cases old.getLsbD g <;> cases new.getLsbD g <;> rfl

end

theorem State.maskChange_of_absent {s : State} {h : Handle} (habsent : ¬ ∃ k, k < 8 ∧ standsIn h (s.queueOf k) = true)
    (old new : Byte) (priority : Nat) (seq : Word) : s.maskChange h old new priority seq = s := by
  have hnone : ¬ (groups.any fun k => standsIn h (s.queueOf k)) = true := fun hany =>
    let ⟨k, hk, hstands⟩ := List.any_eq_true.1 hany
    habsent ⟨k, mem_groups.1 hk, hstands⟩
  rw [State.maskChange, if_neg hnone]

theorem State.maskChange_eq (s : State) (h : Handle) (old new : Byte) (priority : Nat) (seq : Word) :
    s.maskChange h old new priority seq = { s with pickup := (s.maskChange h old new priority seq).pickup } := by
  unfold State.maskChange
  split <;> rfl

/-! ## Each change leaves a queue alone or puts it in order -/

section
variable (s : State) (h : Handle) {g : Nat} (hg : g < 8)
include hg

theorem State.keptOrSorted_enter (mask : Byte) (priority : Nat) (seq : Word) :
    KeptOrSorted s.engine.stageSeq (s.queueOf g) ((s.enter h mask priority seq).queueOf g) := by
  rw [State.queueOf_enter s h hg]
  exact .ite _ _ (keptOrSorted_enterQueue _ _ _)

theorem State.keptOrSorted_leave : KeptOrSorted s.engine.stageSeq (s.queueOf g) ((s.leave h).queueOf g) := by
  rw [State.queueOf_leave s h hg]
  exact keptOrSorted_leaveQueue _ _ _

theorem State.keptOrSorted_priorityChange (priority : Nat) :
    KeptOrSorted s.engine.stageSeq (s.queueOf g) ((s.priorityChange h priority).queueOf g) := by
  rw [State.queueOf_priorityChange s h hg]
  exact keptOrSorted_reprioritise _ _ _ _

theorem State.keptOrSorted_maskChange (old new : Byte) (priority : Nat) (seq : Word) :
    KeptOrSorted s.engine.stageSeq (s.queueOf g) ((s.maskChange h old new priority seq).queueOf g) := by
  by_cases hstands : ∃ k, k < 8 ∧ standsIn h (s.queueOf k) = true
  · obtain ⟨k, hk, hstands⟩ := hstands
    rw [State.queueOf_maskChange s h hg hk hstands]
    split
    · exact keptOrSorted_leaveQueue _ _ _
    · exact .ite _ _ (keptOrSorted_enterQueue _ _ _)
  · rw [State.maskChange_of_absent hstands]
    exact .refl _ _

end

/-- Settles O15. Each change is given queue by queue, and a queue that changes has been put in order. -/
theorem pickupQueueChanges : Obligations.PickupQueueChanges := by
  refine ⟨fun s h old mask prio seq g hg => ?_, fun counter x y => ⟨pickupLe_iff counter x y, pickupLe_signed counter x y⟩⟩
  refine ⟨?enter, ?leave, ?priority, fun habsent => State.maskChange_of_absent habsent old mask prio seq, ?mask, ?frame⟩
  case enter =>
    rw [State.queueOf_enter s h hg]
    cases mask.getLsbD g
    · exact List.Perm.refl _
    · simpa only [if_true, true_and] using enterQueue_perm s.engine.stageSeq (s.queueOf g) ⟨h, prio, seq⟩
  case leave =>
    rw [State.queueOf_leave s h hg]
    exact leaveQueue_perm _ _ _
  case priority =>
    rw [State.queueOf_priorityChange s h hg]
    exact reprioritise_perm _ _ _ _
  case mask =>
    rintro ⟨k, hk, hstands⟩
    rw [State.queueOf_maskChange s h hg hk hstands]
    split
    · exact leaveQueue_perm _ _ _
    by_cases henters : mask.getLsbD g = true ∧ old.getLsbD g = false
    · simpa only [henters, and_self, true_and, if_true] using
        enterQueue_perm s.engine.stageSeq (s.queueOf g) ⟨h, prio, seq⟩
    · rw [if_neg henters, if_neg fun hall => henters ⟨hall.1, hall.2.1⟩]
  case frame =>
    simp only [List.forall_mem_cons, List.not_mem_nil, false_imp_iff, implies_true, and_true]
    exact ⟨⟨s.enter_eq h mask prio seq, (s.keptOrSorted_enter h hg mask prio seq).resolve_left⟩,
      ⟨s.leave_eq h, (s.keptOrSorted_leave h hg).resolve_left⟩,
      ⟨s.priorityChange_eq h prio, (s.keptOrSorted_priorityChange h hg prio).resolve_left⟩,
      s.maskChange_eq h old mask prio seq, (s.keptOrSorted_maskChange h hg old mask prio seq).resolve_left⟩

end Sys2Proof.Machine
end

section
/-! SUPPORT. The custody check by mode. -/

namespace Sys2Proof.Machine

/-- A designated receiver is effective when it is the one stored and is enrolled (R106). -/
theorem State.effectiveReceiver_eq_some {s : State} {spot : Spot} {d : Nat} :
    s.effectiveReceiver spot = some d ↔ spot.receiver = some d ∧ (s.robot d).isSome = true :=
  Option.filter_eq_some_iff

/-- Settles O14. ROBOT and COMBINED turn on whether a designation is effective. -/
theorem custodyCheckModes : Obligations.CustodyCheckModes := by
  intro s n e spot c hrobot hcell inMask designee
  have hgroup : ((s.robot n).map (·.group)).getD 0 = e.group := by rw [hrobot]; rfl
  have hdesignee : ∀ d, designee d ↔ s.effectiveReceiver spot = some d := fun d => State.effectiveReceiver_eq_some.symm
  simp only [State.custodyCheck, hcell, hgroup, hdesignee]
  cases c.check with
  | off => exact Iff.intro (fun _ => trivial) fun _ => rfl
  | group => exact Iff.rfl
  | robot => cases s.effectiveReceiver spot <;> simp
  | combined => cases s.effectiveReceiver spot <;> simp [inMask]

end Sys2Proof.Machine
end

section
/-! SUPPORT. The overdue event up to the rescue switch. -/

namespace Sys2Proof.Machine

/-- A record at priority 3, moved in its queues when it is a STAGED top: how an overdue event begins (R103, R172). -/
def State.raised (s : State) (h : Handle) (r : Record) : State :=
  let w := s.putRecord h.slot { r with priority := 3 }
  if s.stagedTop h r then w.priorityChange h 3 else w

theorem State.overdueTaken_eq {s : State} {h : Handle} {r : Record} (hrec : s.recordOf h = some r) :
    s.overdueTaken h =
      ((s.raised h r).decideRescue h { r with priority := 3 }).countEvent .overdue r.presentZone 0 := by
  simp only [State.overdueTaken, hrec, State.raised]

@[simp] theorem State.raised_dwell (s : State) (h : Handle) (r : Record) : (s.raised h r).dwell = s.dwell := by
  unfold State.raised
  split <;> rfl

@[simp] theorem State.raised_plans (s : State) (h : Handle) (r : Record) : (s.raised h r).plans = s.plans := by
  unfold State.raised
  split <;> rfl

/-- An event that is taken leaves the overdue events raised (R172). -/
theorem State.takeOverdue_eq {s : State} {i : Nat} {h : Handle} (hmode : s.engine.mode ≠ .flushing)
    (hh : s.engine.overdues[i]? = some h) :
    s.takeOverdue i = (s.modEngine fun e => { e with overdues := e.overdues.eraseIdx i }).overdueTaken h := by
  simp only [State.takeOverdue, if_neg hmode, hh]

theorem State.takeOverdue_idle {s : State} {i : Nat} (h : s.engine.mode = .flushing ∨ s.engine.overdues[i]? = none) :
    s.takeOverdue i = s := by
  unfold State.takeOverdue
  split
  · rfl
  · next hmode => rw [h.resolve_left hmode]

/-- No switch for a class with no rescue plan, nor for a record already rescued (R127, log 16). -/
theorem State.decideRescue_idle {s : State} (h : Handle) {r : Record}
    (hidle : (s.dwell.params r.cls).rescue = none ∨ r.rescued = true) : s.decideRescue h r = s := by
  unfold State.decideRescue
  split
  · rfl
  · next hnot => rw [hidle.resolve_right hnot]

theorem State.decideRescue_unavailable {s : State} (h : Handle) {r : Record} {k : Nat} (hrescued : r.rescued = false)
    (hplan : (s.dwell.params r.cls).rescue = some k) (hnone : s.plans.look k = none) :
    s.decideRescue h r = s.post .thermal
      (recordNotice .rescueUnavailable h r r.custody.party r.custody.cell r.presentZone (byteOf k)) := by
  simp only [State.decideRescue, hrescued, hplan, hnone, Bool.false_eq_true, if_false]

/-- Settles O47. The event takes itself off the list, raises the priority, and decides on the rescue. -/
theorem overdueEventRaisesPriority : Obligations.OverdueEventRaisesPriority := by
  intro s i
  refine ⟨fun hidle => congrArg Host.Outcome.next (State.takeOverdue_idle hidle), ?_⟩
  intro h hmode hh v
  have htaken : exec (.overdueEvent i) s = .next (v.overdueTaken h) :=
    congrArg Host.Outcome.next (State.takeOverdue_eq hmode hh)
  refine ⟨fun hnone => ?_, ?_⟩
  · rw [htaken, State.overdueTaken, hnone]
  · intro r hrec w x plan
    rw [htaken, State.overdueTaken_eq hrec]
    refine ⟨fun hidle => ?_, fun k hplan hrescued hnone => ?_⟩
    · rw [State.decideRescue_idle h (by rw [State.raised_dwell]; exact hidle)]
      rfl
    · rw [State.decideRescue_unavailable (r := { r with priority := 3 }) h hrescued
        (by rw [State.raised_dwell]; exact hplan) (by rw [State.raised_plans]; exact hnone)]
      rfl

end Sys2Proof.Machine
end

section
/-! SUPPORT. What the records offer to the pickup queues, and the four changes of the queues as changes of that offer. -/

namespace Sys2Proof.Machine

/-! ## Offers -/

/-- Where a record's bin is: what is left of its custody without parties and timings. -/
inductive Place where
  | carried
  | booked (cell : Nat)
  | staged (spot : Spot)
  | claimed (spot : Spot)

def Custody.place : Custody → Place
  | .carried .. => .carried
  | .booked _ cell .. => .booked cell
  | .staged spot _ => .staged spot
  | .claimed spot .. => .claimed spot

def Place.spot : Place → Option Spot
  | .staged spot => some spot
  | .claimed spot => some spot
  | _ => none

/-- What the pickup queues depend on in a record. -/
structure Placed where
  place : Place
  priority : Nat

def Record.placed (r : Record) : Placed := ⟨r.custody.place, r.priority⟩

def State.placed (s : State) (h : Handle) : Option Placed := (s.recordOf h).map Record.placed

/-- What a record stands in the queues with: its mask says in which, its priority and stage sequence where (R95, R97). -/
structure Offer where
  mask : Byte
  priority : Nat
  seq : Word

/-- A STAGED top is offered, and nothing else is (R95). -/
def Placed.offer (top : Nat → Option Handle) (h : Handle) (p : Placed) : Option Offer :=
  match p.place with
  | .staged spot => if top spot.cell = some h then some ⟨spot.mask, p.priority, spot.seq⟩ else none
  | _ => none

def State.offer (s : State) (h : Handle) : Option Offer := (s.placed h).bind (·.offer s.cellTop h)

theorem Custody.spot_place (c : Custody) : c.place.spot = c.spot := by cases c <;> rfl

theorem Custody.place_eq_booked {c : Custody} {k : Nat} :
    c.place = .booked k ↔ ∃ n receiver ov timing, c = .booked n k receiver ov timing := by
  cases c <;> simp [Custody.place]

theorem Custody.place_eq_staged {c : Custody} {spot : Spot} : c.place = .staged spot ↔ ∃ lapsed, c = .staged spot lapsed := by
  cases c <;> simp [Custody.place]

theorem Custody.place_eq_claimed {c : Custody} {spot : Spot} :
    c.place = .claimed spot ↔ ∃ n timing, c = .claimed spot n timing := by
  cases c <;> simp [Custody.place]

section
variable {s t : State} {h : Handle} {r : Record}

theorem State.placed_of_recordOf (hrec : s.recordOf h = some r) : s.placed h = some r.placed := by
  rw [State.placed, hrec, Option.map_some]

theorem State.placed_of_custody (hrec : s.recordOf h = some r) {c : Custody} (hcustody : r.custody = c) :
    s.placed h = some ⟨c.place, r.priority⟩ := by
  rw [State.placed_of_recordOf hrec, Record.placed, hcustody]

theorem State.recordOf_of_placed {place : Place} {prio : Nat} (hp : s.placed h = some ⟨place, prio⟩) :
    ∃ r, s.recordOf h = some r ∧ r.custody.place = place ∧ r.priority = prio := by
  obtain ⟨r, hrec, heq⟩ := Option.map_eq_some_iff.1 hp
  obtain ⟨hplace, hprio⟩ := Placed.mk.inj heq
  exact ⟨r, hrec, hplace, hprio⟩

theorem State.offer_of_placed {p : Placed} (hp : s.placed h = some p) : s.offer h = p.offer s.cellTop h := by
  rw [State.offer, hp, Option.bind_some]

theorem State.offer_of_staged {spot : Spot} {prio : Nat} (hp : s.placed h = some ⟨.staged spot, prio⟩) :
    s.offer h = if s.cellTop spot.cell = some h then some ⟨spot.mask, prio, spot.seq⟩ else none :=
  State.offer_of_placed hp

/-- Whether a live record is offered, and with what. -/
theorem State.offer_eq_some {o : Offer} :
    s.offer h = some o ↔ ∃ r spot lapsed, s.recordOf h = some r ∧ r.custody = .staged spot lapsed ∧
      s.cellTop spot.cell = some h ∧ o = ⟨spot.mask, r.priority, spot.seq⟩ := by
  rw [State.offer, State.placed, Option.bind_map, Option.bind_eq_some_iff]
  refine exists_congr fun r => ?_
  simp only [exists_and_left, Function.comp_apply, Record.placed, Placed.offer]
  cases r.custody <;> simp [Custody.place, eq_comm]

/-- The offer of a record that keeps its place, on a cell of which it is the top as before or is not, as before. -/
theorem State.offer_eq_of_top (hplaced : t.placed h = s.placed h)
    (htop : ∀ spot prio, s.placed h = some ⟨.staged spot, prio⟩ →
      (t.cellTop spot.cell = some h ↔ s.cellTop spot.cell = some h)) : t.offer h = s.offer h := by
  rw [State.offer, State.offer, hplaced]
  rcases hp : s.placed h with _ | ⟨_ | k | spot | spot, prio⟩
  case some.staged => simp only [Option.bind_some, Placed.offer, htop spot prio hp]
  all_goals rfl

theorem State.offer_congr (hplaced : t.placed = s.placed) (htop : t.cellTop = s.cellTop) : t.offer = s.offer := by
  funext x
  rw [State.offer, State.offer, hplaced, htop]

/-- One record written, opened or retired while every cell keeps its top. -/
theorem State.offer_update {p : Option Placed} (hplaced : t.placed = Function.update s.placed h p)
    (htop : t.cellTop = s.cellTop) : t.offer = Function.update s.offer h (p.bind (·.offer s.cellTop h)) := by
  funext x
  rw [State.offer, hplaced, htop]
  by_cases hx : x = h
  · rw [hx, Function.update_self, Function.update_self]
  · rw [Function.update_of_ne hx, Function.update_of_ne hx, State.offer]

end

/-! ## A queue that shows what is offered -/

/-- A group's queue lists, once each, the records offered to the group, with the priority and stage sequence offered (R95,
R97). -/
def Shows (g : Nat) (offers : Handle → Option Offer) (q : List PickupEntry) : Prop :=
  (q.map (·.handle)).Nodup ∧
    ∀ e, e ∈ q ↔ ∃ mask, offers e.handle = some ⟨mask, e.priority, e.seq⟩ ∧ mask.getLsbD g = true

namespace Shows

variable {g : Nat} {offers : Handle → Option Offer} {q q' : List PickupEntry} {h : Handle}

theorem perm (hq : Shows g offers q) (hperm : q'.Perm q) : Shows g offers q' :=
  ⟨(hperm.map _).nodup_iff.2 hq.1, fun e => hperm.mem_iff.trans (hq.2 e)⟩

theorem absent_of_mask (hq : Shows g offers q) (hmask : ∀ o, offers h = some o → o.mask.getLsbD g = false) :
    standsIn h q = false := by
  rw [standsIn_eq_false_iff]
  rintro e he rfl
  obtain ⟨mask, hoffer, hbit⟩ := (hq.2 e).1 he
  rw [hmask _ hoffer] at hbit
  cases hbit

theorem absent (hq : Shows g offers q) (hnone : offers h = none) : standsIn h q = false :=
  hq.absent_of_mask fun o ho => by rw [hnone] at ho; cases ho

theorem stands (hq : Shows g offers q) {o : Offer} (ho : offers h = some o) (hmask : o.mask.getLsbD g = true) :
    standsIn h q = true :=
  standsIn_iff.2 ⟨⟨h, o.priority, o.seq⟩, (hq.2 _).2 ⟨o.mask, ho, hmask⟩, rfl⟩

/-- The queue after a change of one record's entry shows the offers after the same change of its offer. -/
theorem update (hq : Shows g offers q) (hnodup : (q'.map (·.handle)).Nodup) {o : Option Offer}
    (hother : ∀ e : PickupEntry, e.handle ≠ h → (e ∈ q' ↔ e ∈ q))
    (hown : ∀ e : PickupEntry, e.handle = h →
      (e ∈ q' ↔ ∃ mask, o = some ⟨mask, e.priority, e.seq⟩ ∧ mask.getLsbD g = true)) :
    Shows g (Function.update offers h o) q' := by
  refine ⟨hnodup, fun e => ?_⟩
  by_cases he : e.handle = h
  · rw [he, Function.update_self]
    exact hown e he
  · rw [Function.update_of_ne he]
    exact (hother e he).trans (hq.2 e)

theorem enter (hq : Shows g offers q) (hnone : offers h = none) (counter : Word) (o : Offer) :
    Shows g (Function.update offers h (some o))
      (if o.mask.getLsbD g = true then enterQueue counter ⟨h, o.priority, o.seq⟩ q else q) := by
  have habsent := hq.absent hnone
  have hnot := standsIn_eq_false_iff.1 habsent
  split
  · next hmask =>
    have hperm := enterQueue_perm counter q ⟨h, o.priority, o.seq⟩
    rw [if_pos habsent] at hperm
    refine perm (hq.update (q' := ⟨h, o.priority, o.seq⟩ :: q) ?_ (fun e he => ?_) fun e he => ?_) hperm
    · refine List.nodup_cons.2 ⟨fun hmem => ?_, hq.1⟩
      obtain ⟨e, he, heq⟩ := List.mem_map.1 hmem
      exact hnot e he heq
    · rw [List.mem_cons, or_iff_right fun heq => he (by rw [heq])]
    · rw [List.mem_cons, or_iff_left fun hmem => hnot e hmem he]
      constructor
      · rintro rfl
        exact ⟨o.mask, rfl, hmask⟩
      · rintro ⟨mask, heq, -⟩
        obtain ⟨handle, priority, seq⟩ := e
        cases he
        cases heq
        rfl
  · next hmask =>
    refine hq.update hq.1 (fun e _ => Iff.rfl) fun e he => iff_of_false (fun hmem => hnot e hmem he) ?_
    rintro ⟨mask, heq, hbit⟩
    cases heq
    exact hmask hbit

theorem leave (hq : Shows g offers q) (h : Handle) (counter : Word) :
    Shows g (Function.update offers h none) (leaveQueue counter h q) := by
  refine perm (hq.update (q' := q.filter fun e => e.handle ≠ h) ?_ (fun e he => ?_) fun e he => ?_) (leaveQueue_perm _ _ _)
  · exact hq.1.sublist (List.filter_sublist.map _)
  · rw [List.mem_filter, and_iff_left (decide_eq_true he)]
  · refine iff_of_false (fun hmem => ?_) (by rintro ⟨_, heq, -⟩; cases heq)
    exact of_decide_eq_true (List.mem_filter.1 hmem).2 he

theorem reprioritise (hq : Shows g offers q) (h : Handle) (priority : Nat) (counter : Word) :
    Shows g (Function.update offers h ((offers h).map fun o => { o with priority := priority }))
      (Machine.reprioritise counter h priority q) := by
  have hhandles : (repriced h priority q).map (·.handle) = q.map (·.handle) := by
    rw [repriced, List.map_map]
    refine List.map_congr_left fun e _ => ?_
    rw [Function.comp_apply]
    split <;> rfl
  have hmem : ∀ e, e ∈ repriced h priority q ↔
      ∃ e' ∈ q, (if e'.handle = h then { e' with priority := priority } else e') = e := fun e => List.mem_map
  refine perm (hq.update ?_ (fun e he => ?_) fun e he => ?_) (reprioritise_perm counter h q priority)
  · rw [hhandles]
    exact hq.1
  · rw [hmem]
    constructor
    · rintro ⟨e', he', rfl⟩
      by_cases hh : e'.handle = h
      · rw [if_pos hh] at he
        exact absurd hh he
      · rwa [if_neg hh]
    · exact fun hin => ⟨e, hin, if_neg he⟩
  · rw [hmem]
    constructor
    · rintro ⟨e', he', rfl⟩
      by_cases hh : e'.handle = h
      · obtain ⟨mask, hoffer, hbit⟩ := (hq.2 e').1 he'
        rw [hh] at hoffer
        rw [if_pos hh, hoffer]
        exact ⟨mask, rfl, hbit⟩
      · rw [if_neg hh] at he
        exact absurd he hh
    · rintro ⟨mask, heq, hbit⟩
      obtain ⟨handle, prio, seq⟩ := e
      obtain rfl : handle = h := he
      obtain ⟨o, ho, heq⟩ := Option.map_eq_some_iff.1 heq
      obtain ⟨rfl, rfl, rfl⟩ := Offer.mk.inj heq
      exact ⟨⟨handle, o.priority, o.seq⟩, (hq.2 _).2 ⟨o.mask, ho, hbit⟩, if_pos rfl⟩

/-- A mask change is a leave, an enter, or neither: the mask's bits for the other groups do not show here. -/
theorem maskChange (hq : Shows g offers q) {o : Offer} (ho : offers h = some o) (new : Byte) (counter : Word) :
    Shows g (Function.update offers h (some { o with mask := new }))
      (if o.mask.getLsbD g = true ∧ new.getLsbD g = false then leaveQueue counter h q
       else if new.getLsbD g = true ∧ o.mask.getLsbD g = false then enterQueue counter ⟨h, o.priority, o.seq⟩ q
       else q) := by
  have hentered := (hq.leave h counter).enter (Function.update_self h none offers) counter { o with mask := new }
  rw [Function.update_idem] at hentered
  cases hold : o.mask.getLsbD g with
  | false =>
    have habsent : leaveQueue counter h q = q := by
      have hnot : standsIn h q = false := hq.absent_of_mask fun o' ho' => by
        rw [ho] at ho'
        cases ho'
        exact hold
      rw [leaveQueue, hnot]
      rfl
    rw [habsent] at hentered
    simpa using hentered
  | true =>
    cases hnew : new.getLsbD g with
    | false => simpa [hnew] using hentered
    | true =>
      refine hq.update hq.1 (fun e _ => Iff.rfl) fun e he => ?_
      rw [hq.2 e, he, ho]
      obtain ⟨mask, priority, seq⟩ := o
      simp only [Option.some.injEq, Offer.mk.injEq]
      constructor
      · rintro ⟨_, ⟨-, hkept⟩, -⟩
        exact ⟨new, ⟨rfl, hkept⟩, hnew⟩
      · rintro ⟨_, ⟨-, hkept⟩, -⟩
        exact ⟨mask, ⟨rfl, hkept⟩, hold⟩

end Shows

end Sys2Proof.Machine
end

section
/-! SUPPORT. The eight queues and the offers they show, after each operation that hands the pickup queues a change. -/

namespace Sys2Proof.Machine

/-! ## Queues that show the offers and are in an order -/

/-- Each of the eight queues shows what is offered to its group, and its members stand in a relation that may read the stage
sequence counter. -/
structure State.QueuesKept (R : Word → PickupEntry → PickupEntry → Prop) (s : State) (offers : Handle → Option Offer) :
    Prop where
  shows : ∀ g, g < 8 → Shows g offers (s.queueOf g)
  related : ∀ g, g < 8 → (s.queueOf g).Pairwise (R s.engine.stageSeq)

/-- The Pickup Queue Unit, with the counter that its order reads. -/
def State.queueUnit (s : State) : Table (List PickupEntry) × Word := (s.pickup, s.engine.stageSeq)

namespace State.QueuesKept

variable {R : Word → PickupEntry → PickupEntry → Prop} {s t : State} {offers : Handle → Option Offer} {h : Handle}

theorem congr (hs : s.QueuesKept R offers) (hunit : t.queueUnit = s.queueUnit) : t.QueuesKept R offers := by
  have hpickup : t.pickup = s.pickup := congrArg Prod.fst hunit
  have hcounter : t.engine.stageSeq = s.engine.stageSeq := congrArg Prod.snd hunit
  have hqueues : t.queueOf = s.queueOf := by
    funext g
    rw [State.queueOf, State.queueOf, hpickup]
  exact ⟨hqueues ▸ hs.shows, hqueues ▸ hcounter ▸ hs.related⟩

/-- The queues and the offers as they were. -/
theorem unchanged (hs : s.QueuesKept R s.offer) (hunit : t.queueUnit = s.queueUnit) (hplaced : t.placed = s.placed)
    (htop : t.cellTop = s.cellTop) : t.QueuesKept R t.offer := by
  rw [State.offer_congr hplaced htop]
  exact hs.congr hunit

section
variable (hR : ∀ c x y, pickupLe c x y = true → R c x y)
include hR

/-- A change of the queues that leaves each of them or puts it in order. -/
theorem changed (hs : s.QueuesKept R offers) {offers' : Handle → Option Offer}
    (hcounter : t.engine.stageSeq = s.engine.stageSeq) (hshows : ∀ g, g < 8 → Shows g offers' (t.queueOf g))
    (hsorted : ∀ g, g < 8 → KeptOrSorted s.engine.stageSeq (s.queueOf g) (t.queueOf g)) : t.QueuesKept R offers' := by
  refine ⟨hshows, fun g hg => ?_⟩
  rw [hcounter]
  rcases hsorted g hg with heq | hle
  · rw [heq]
    exact hs.related g hg
  · exact hle.imp (hR _ _ _)

theorem leave (hs : s.QueuesKept R offers) (h : Handle) : (s.leave h).QueuesKept R (Function.update offers h none) :=
  hs.changed hR rfl (fun g hg => s.queueOf_leave h hg ▸ (hs.shows g hg).leave h s.engine.stageSeq)
    fun _ hg => s.keptOrSorted_leave h hg

theorem enter (hs : s.QueuesKept R offers) (hnone : offers h = none) (o : Offer) :
    (s.enter h o.mask o.priority o.seq).QueuesKept R (Function.update offers h (some o)) :=
  hs.changed hR rfl
    (fun g hg => s.queueOf_enter h hg o.mask o.priority o.seq ▸ (hs.shows g hg).enter hnone s.engine.stageSeq o)
    fun _ hg => s.keptOrSorted_enter h hg _ _ _

theorem priorityChange (hs : s.QueuesKept R offers) (h : Handle) (priority : Nat) :
    (s.priorityChange h priority).QueuesKept R
      (Function.update offers h ((offers h).map fun o => { o with priority := priority })) :=
  hs.changed hR rfl
    (fun g hg => s.queueOf_priorityChange h hg priority ▸ (hs.shows g hg).reprioritise h priority s.engine.stageSeq)
    fun _ hg => s.keptOrSorted_priorityChange h hg _

/-- A record offered with a mask that is not empty stands in some queue, so that a mask change for it is carried out. -/
theorem maskChange (hs : s.QueuesKept R offers) {o : Offer} (ho : offers h = some o) (hmask : o.mask ≠ 0) (new : Byte) :
    (s.maskChange h o.mask new o.priority o.seq).QueuesKept R (Function.update offers h (some { o with mask := new })) := by
  obtain ⟨k, hk, hbit⟩ : ∃ k, k < 8 ∧ o.mask.getLsbD k = true := by
    by_contra hnot
    refine hmask (BitVec.eq_of_getLsbD_eq (y := 0#8) fun k hk => ?_)
    rw [BitVec.getLsbD_zero, ← Bool.not_eq_true]
    exact fun hbit => hnot ⟨k, hk, hbit⟩
  have hstands := (hs.shows k hk).stands ho hbit
  refine hs.changed hR (by rw [State.maskChange_eq]) (fun g hg => ?_) fun _ hg => s.keptOrSorted_maskChange h hg _ _ _ _
  rw [State.queueOf_maskChange s h hg hk hstands]
  exact (hs.shows g hg).maskChange ho new s.engine.stageSeq

end

end State.QueuesKept

/-! ## Operations that leave the queues, and those that leave the tops -/

section
variable (s : State)

@[simp] theorem State.modCell_queueUnit (n : Nat) (f : Cell → Cell) : (s.modCell n f).queueUnit = s.queueUnit := by
  rw [State.modCell_eq_modify]
  rfl

@[simp] theorem State.modRobot_queueUnit (n : Nat) (f : Robot → Robot) : (s.modRobot n f).queueUnit = s.queueUnit := by
  rw [State.modRobot_eq_modify]
  rfl

@[simp] theorem State.modPlan_queueUnit (n : Nat) (f : Plan → Plan) : (s.modPlan n f).queueUnit = s.queueUnit := by
  rw [State.modPlan_eq_modify]
  rfl

@[simp] theorem State.putRecord_queueUnit (slot : Nat) (r : Record) : (s.putRecord slot r).queueUnit = s.queueUnit := rfl

@[simp] theorem State.modTimer_queueUnit (f : DeadlineTimer → DeadlineTimer) : (s.modTimer f).queueUnit = s.queueUnit := rfl

theorem State.leave_stageSeq (h : Handle) : (s.leave h).engine.stageSeq = s.engine.stageSeq := rfl

@[simp] theorem State.modNotices_queueUnit (f : NoticeUnit → NoticeUnit) : (s.modNotices f).queueUnit = s.queueUnit := rfl

@[simp] theorem State.closeCheck_queueUnit (n : Nat) : (s.closeCheck n).queueUnit = s.queueUnit := by
  unfold State.closeCheck
  split
  · rfl
  · split <;> rfl

/-- A cell written with the stack it had, or with an empty one where there was none. -/
theorem State.cellTop_putCell {n : Nat} {c : Cell} (hstack : c.stack.getLast? = s.cellTop n) :
    (s.putCell n c).cellTop = s.cellTop := by
  funext m
  simp only [State.cellTop, State.cell, State.putCell, State.modEngine_engine, Table.look_put]
  split
  · next hm =>
    rw [hm]
    exact hstack
  · rfl

theorem State.cellTop_of_cell {n : Nat} {c : Cell} (hc : s.cell n = some c) : s.cellTop n = c.stack.getLast? := by
  rw [State.cellTop, hc, Option.bind_some]

theorem State.modCell_cellTop (n : Nat) {f : Cell → Cell} (hf : ∀ c, (f c).stack = c.stack) :
    (s.modCell n f).cellTop = s.cellTop := by
  unfold State.modCell
  split
  · next c hc => exact s.cellTop_putCell (by rw [hf, State.cellTop_of_cell s hc])
  · rfl

@[simp] theorem State.modRobot_cellTop (n : Nat) (f : Robot → Robot) : (s.modRobot n f).cellTop = s.cellTop := by
  rw [State.modRobot_eq_modify]
  rfl

@[simp] theorem State.modPlan_cellTop (n : Nat) (f : Plan → Plan) : (s.modPlan n f).cellTop = s.cellTop := by
  rw [State.modPlan_eq_modify]
  rfl

@[simp] theorem State.closeCheck_cellTop (n : Nat) : (s.closeCheck n).cellTop = s.cellTop := by
  unfold State.closeCheck
  split
  · rfl
  next c hc =>
  split
  · exact s.cellTop_putCell (State.cellTop_of_cell s hc).symm
  · rfl

theorem State.cellTop_setPickup (pickup : Table (List PickupEntry)) : { s with pickup := pickup }.cellTop = s.cellTop := rfl

theorem State.leave_cellTop (h : Handle) : (s.leave h).cellTop = s.cellTop := by
  rw [State.leave_eq]
  exact s.cellTop_setPickup _

@[simp] theorem State.maskChange_cellTop (h : Handle) (old new : Byte) (priority : Nat) (seq : Word) :
    (s.maskChange h old new priority seq).cellTop = s.cellTop := by
  rw [State.maskChange_eq]
  exact s.cellTop_setPickup _

end

/-! ## The records -/

section
variable {s t : State} {h : Handle} {r r' : Record}

theorem State.placed_congr (htables : t.tables = s.tables) : t.placed = s.placed :=
  funext fun x => by rw [State.placed, State.placed, State.recordOf_congr htables]

theorem State.placed_of_update {o : Option Record} (ht : t.recordOf = Function.update s.recordOf h o) :
    t.placed = Function.update s.placed h (o.map Record.placed) := by
  funext x
  rw [State.placed, ht]
  by_cases hx : x = h
  · rw [hx, Function.update_self, Function.update_self]
  · rw [Function.update_of_ne hx, Function.update_of_ne hx, State.placed]

theorem State.placed_rewritten {list : List Deadline} {plans : Table Plan} (hrec : s.recordOf h = some r)
    (htables : t.tables = (s.rewritten h.slot r' list plans).tables) :
    t.placed = Function.update s.placed h (some r'.placed) :=
  (State.placed_congr htables).trans (State.placed_of_update (State.recordOf_rewritten_eq hrec r' list plans))

/-- A record written with the place and priority it had. -/
theorem State.placed_rewritten_same {list : List Deadline} {plans : Table Plan} (hrec : s.recordOf h = some r)
    (hsame : r'.placed = r.placed) (htables : t.tables = (s.rewritten h.slot r' list plans).tables) :
    t.placed = s.placed := by
  rw [State.placed_rewritten hrec htables, hsame, ← State.placed_of_recordOf hrec, Function.update_eq_self]

theorem Record.placed_timed (r : Record) (timing : Timing) : (r.timed timing).placed = r.placed := by
  simp only [Record.timed, Record.retimed]
  cases hc : r.custody with
  | carried | staged => rfl
  | booked | claimed => simp only [Record.placed, hc, Custody.place]

/-- Bringing a hold into line leaves the record's place (R50, R146, R147). -/
theorem State.placed_alignHold (s : State) (slot : Nat) (up : Bool) : (s.alignHold slot up).placed = s.placed := by
  rcases s.alignHold_cases slot up with ⟨heq, -⟩ | ⟨-, r, _, hlook, -, heq⟩ | ⟨-, r, _, hlook, -, heq⟩
  · rw [heq]
  all_goals
    exact State.placed_rewritten_same ((s.recordOf_handleOf slot).trans hlook) (r.placed_timed _)
      (congrArg State.tables heq)

end

/-! ## The stacks -/

/-- What the changes of the queues need of the records and stacks before them: a stack lists records on its cell, a CLAIMED
record is on top, a booked cell is defined, and a STAGED record's mask is not empty (R14, R31, R33). -/
structure State.StacksReady (s : State) : Prop where
  listed : ∀ n c b, s.cell n = some c → b ∈ c.stack →
    ∃ p spot, s.placed b = some p ∧ p.place.spot = some spot ∧ spot.cell = n
  claimedTop : ∀ b spot prio, s.placed b = some ⟨.claimed spot, prio⟩ → s.cellTop spot.cell = some b
  bookedCell : ∀ b k prio, s.placed b = some ⟨.booked k, prio⟩ → (s.cell k).isSome = true
  masks : ∀ b spot prio, s.placed b = some ⟨.staged spot, prio⟩ → spot.mask ≠ 0

theorem State.StacksReady.congr {s t : State} (hs : s.StacksReady) (hplaced : t.placed = s.placed)
    (hcells : t.engine.cells = s.engine.cells) : t.StacksReady := by
  have hcell : t.cell = s.cell := funext fun n => by rw [State.cell, State.cell, hcells]
  have htop : t.cellTop = s.cellTop := funext fun n => by rw [State.cellTop, State.cellTop, hcell]
  exact ⟨hcell ▸ hplaced ▸ hs.listed, htop ▸ hplaced ▸ hs.claimedTop, hcell ▸ hplaced ▸ hs.bookedCell,
    hplaced ▸ hs.masks⟩

theorem State.stacksReady_of_laws {s : State} (hcells : s.cellLaw) (hmasks : s.maskLaw) : s.StacksReady := by
  obtain ⟨hkept, hdefined⟩ := hcells
  obtain ⟨-, -, -, hmasks⟩ := hmasks
  have hmem : ∀ {b r}, s.recordOf b = some r → (b.slot, r) ∈ s.engine.records := fun hrec =>
    Table.mem_of_look (State.look_of_recordOf hrec).1
  refine ⟨fun n c b hc hb => ?_, fun b spot prio hp => ?_, fun b k prio hp => ?_, fun b spot prio hp => ?_⟩
  · obtain ⟨-, hlisted, -⟩ := hkept n c hc
    obtain ⟨r, spot, hrec, hs, hn⟩ := (hlisted b).1 hb
    exact ⟨r.placed, spot, State.placed_of_recordOf hrec, (Custody.spot_place _).trans hs, hn⟩
  · obtain ⟨r, hrec, hplace, -⟩ := State.recordOf_of_placed hp
    obtain ⟨n, timing, hcustody⟩ := Custody.place_eq_claimed.1 hplace
    obtain ⟨c, hc⟩ := Option.isSome_iff_exists.1 (hdefined _ (hmem hrec) spot.cell (by rw [hcustody]; rfl))
    obtain ⟨-, hlisted, hclaimed, -⟩ := hkept spot.cell c hc
    rw [State.cellTop_of_cell s hc]
    exact hclaimed b r hrec (by rw [hcustody]; rfl) ((hlisted b).2 ⟨r, spot, hrec, by rw [hcustody]; rfl, rfl⟩)
  · obtain ⟨r, hrec, hplace, -⟩ := State.recordOf_of_placed hp
    obtain ⟨n, receiver, ov, timing, hcustody⟩ := Custody.place_eq_booked.1 hplace
    exact hdefined _ (hmem hrec) k (by rw [hcustody]; rfl)
  · obtain ⟨r, hrec, hplace, -⟩ := State.recordOf_of_placed hp
    obtain ⟨lapsed, hcustody⟩ := Custody.place_eq_staged.1 hplace
    exact (hmasks _ (hmem hrec)).1 spot (by rw [hcustody]; rfl)

/-! ## A bin leaves its stack -/

theorem getLast?_filter_ne {stack : List Handle} {h : Handle} (htop : stack.getLast? ≠ some h) :
    (stack.filter fun x => x ≠ h).getLast? = stack.getLast? := by
  rcases List.eq_nil_or_concat stack with rfl | ⟨rest, b, rfl⟩
  · rfl
  · have hb : b ≠ h := fun heq => htop (by simp [heq])
    simp [List.filter_append, hb]

section
variable {s : State} {n : Nat} {h b : Handle}

theorem State.cell_unstack (s : State) (n : Nat) (h : Handle) (m : Nat) :
    (s.unstack n h).cell m = if m = n then (s.cell n).map (·.without h) else s.cell m := by
  rw [State.unstack_eq]
  exact Table.look_modify _ _ _ _

theorem State.cellTop_unstack_ne (s : State) (h : Handle) {n m : Nat} (hm : m ≠ n) :
    (s.unstack n h).cellTop m = s.cellTop m := by
  rw [State.cellTop, State.cell_unstack, if_neg hm, State.cellTop]

/-- A bin taken from under the top leaves every top. -/
theorem State.cellTop_unstack_buried (htop : s.cellTop n ≠ some h) : (s.unstack n h).cellTop = s.cellTop := by
  funext m
  by_cases hm : m = n
  · subst hm
    rw [State.cellTop, State.cell_unstack, if_pos rfl]
    cases hc : s.cell m with
    | none => rw [State.cellTop, hc]; rfl
    | some c =>
      rw [State.cellTop_of_cell s hc] at htop ⊢
      exact getLast?_filter_ne htop
  · exact s.cellTop_unstack_ne h hm

/-- The bin that takes the place of a cell's top is STAGED there, and was not offered (R33). -/
theorem State.StacksReady.uncovered (hs : s.StacksReady) (htop : s.cellTop n = some h)
    (hnow : (s.unstack n h).cellTop n = some b) :
    b ≠ h ∧ s.offer b = none ∧ ∃ spot prio, s.placed b = some ⟨.staged spot, prio⟩ ∧ spot.cell = n := by
  rw [State.cellTop, State.cell_unstack, if_pos rfl, Option.bind_eq_some_iff] at hnow
  obtain ⟨_, hcell, hlast⟩ := hnow
  obtain ⟨c, hc, rfl⟩ := Option.map_eq_some_iff.1 hcell
  obtain ⟨hmem, hne⟩ := List.mem_filter.1 (List.mem_of_getLast? hlast)
  have hbh : b ≠ h := of_decide_eq_true hne
  obtain ⟨⟨place, prio⟩, spot, hp, hspot, hn⟩ := hs.listed n c b hc hmem
  cases place with
  | carried | booked => cases hspot
  | staged =>
    cases hspot
    refine ⟨hbh, ?_, spot, prio, hp, hn⟩
    rw [State.offer_of_staged hp, hn, htop, if_neg fun heq => hbh (Option.some.inj heq).symm]
  | claimed =>
    cases hspot
    have hclaimed := hs.claimedTop b spot prio hp
    rw [hn, htop] at hclaimed
    exact absurd (Option.some.inj hclaimed).symm hbh

theorem State.placed_unstack (s : State) (n : Nat) (h : Handle) : (s.unstack n h).placed = s.placed :=
  State.placed_congr (s.side_unstack n h).tables

/-- The offers after a bin has left its stack: the bin now on top, if it was not the top before, is offered; the others as
they were (R102). -/
def State.offersUncovered (s : State) (n : Nat) (h : Handle) (offers : Handle → Option Offer) (x : Handle) : Option Offer :=
  if s.cellTop n = some h ∧ (s.unstack n h).cellTop n = some x then (s.unstack n h).offer x else offers x

theorem State.offer_unstack (s : State) (n : Nat) {x : Handle}
    (hx : ∀ spot prio, s.placed x = some ⟨.staged spot, prio⟩ → x ≠ h) :
    (s.unstack n h).offer x = s.offersUncovered n h s.offer x := by
  unfold State.offersUncovered
  split
  · rfl
  next hnot =>
  refine State.offer_eq_of_top (congrFun (s.placed_unstack n h) x) fun spot prio hp => ?_
  by_cases hn : spot.cell = n
  · rw [hn]
    by_cases htop : s.cellTop n = some h
    · refine iff_of_false (fun hnow => hnot ⟨htop, hnow⟩) fun hwas => hx spot prio hp ?_
      rw [htop] at hwas
      exact (Option.some.inj hwas).symm
    · rw [State.cellTop_unstack_buried htop]
  · rw [s.cellTop_unstack_ne h hn]

theorem State.cellTop_unstack_congr {t : State} (hcells : t.engine.cells = s.engine.cells) (n : Nat) (h : Handle) :
    (t.unstack n h).cellTop = (s.unstack n h).cellTop := by
  have hcell : t.cell = s.cell := funext fun m => by rw [State.cell, State.cell, hcells]
  funext m
  simp only [State.cellTop, State.cell_unstack, hcell]

theorem State.unstack_of_top (htop : s.cellTop n = some h) :
    s.unstack n h = (s.modCell n (·.without h)).uncover n := by
  rw [State.unstack]
  exact if_pos htop

theorem State.unstack_of_buried (htop : s.cellTop n ≠ some h) : s.unstack n h = s.modCell n (·.without h) := by
  rw [State.unstack]
  exact if_neg htop

theorem State.uncover_of_bare (htop : s.cellTop n = none) : s.uncover n = s := by
  simp only [State.uncover, htop]

theorem State.uncover_of_staged (htop : s.cellTop n = some b) {spot : Spot} {prio : Nat}
    (hp : s.placed b = some ⟨.staged spot, prio⟩) : s.uncover n = s.enter b spot.mask prio spot.seq := by
  obtain ⟨r, hrec, hplace, rfl⟩ := State.recordOf_of_placed hp
  obtain ⟨lapsed, hcustody⟩ := Custody.place_eq_staged.1 hplace
  simp only [State.uncover, htop, hrec, hcustody]

theorem State.placed_modCell (s : State) (n : Nat) (f : Cell → Cell) : (s.modCell n f).placed = s.placed := by
  rw [State.modCell_eq_modify]
  rfl

section
variable {offers : Handle → Option Offer}

/-- No bin comes to the top when one is taken from under it, or when the stack is empty then. -/
theorem State.offersUncovered_of_none (hnone : s.cellTop n = some h → (s.unstack n h).cellTop n = none) :
    s.offersUncovered n h offers = offers :=
  funext fun x => if_neg fun ⟨htop, hnow⟩ => by
    rw [hnone htop] at hnow
    cases hnow

theorem State.offersUncovered_of_some (htop : s.cellTop n = some h) (hnow : (s.unstack n h).cellTop n = some b) :
    s.offersUncovered n h offers = Function.update offers b ((s.unstack n h).offer b) := by
  funext x
  by_cases hx : x = b
  · rw [hx, Function.update_self]
    exact if_pos ⟨htop, hnow⟩
  · rw [Function.update_of_ne hx]
    refine if_neg fun ⟨_, hother⟩ => hx ?_
    rw [hnow] at hother
    exact (Option.some.inj hother).symm

/-- The queues show those offers, when a bin that comes to the top is STAGED and was offered to no group. -/
theorem State.QueuesKept.unstack {R : Word → PickupEntry → PickupEntry → Prop}
    (hR : ∀ c x y, pickupLe c x y = true → R c x y) (hs : s.QueuesKept R offers)
    (hunder : ∀ x, s.cellTop n = some h → (s.unstack n h).cellTop n = some x →
      offers x = none ∧ ∃ spot prio, s.placed x = some ⟨.staged spot, prio⟩ ∧ spot.cell = n) :
    (s.unstack n h).QueuesKept R (s.offersUncovered n h offers) := by
  have hleft : (s.modCell n (·.without h)).QueuesKept R offers := hs.congr (State.modCell_queueUnit _ _ _)
  by_cases htop : s.cellTop n = some h
  · have hunstack := State.unstack_of_top htop
    have htops : (s.modCell n (·.without h)).cellTop n = (s.unstack n h).cellTop n := by
      rw [hunstack, State.uncover_eq]
      rfl
    cases hnow : (s.unstack n h).cellTop n with
    | none =>
      rw [State.offersUncovered_of_none fun _ => hnow, hunstack, State.uncover_of_bare (htops.trans hnow)]
      exact hleft
    | some b =>
      obtain ⟨hnone, spot, prio, hp, hcell⟩ := hunder b htop hnow
      have hoffer : (s.unstack n h).offer b = some ⟨spot.mask, prio, spot.seq⟩ := by
        rw [State.offer_of_staged ((congrFun (s.placed_unstack n h) b).trans hp), hcell, hnow, if_pos rfl]
      rw [State.offersUncovered_of_some htop hnow, hoffer, hunstack,
        State.uncover_of_staged (htops.trans hnow) ((congrFun (s.placed_modCell n _) b).trans hp)]
      exact hleft.enter hR hnone ⟨spot.mask, prio, spot.seq⟩
  · rw [State.offersUncovered_of_none fun h => absurd h htop, State.unstack_of_buried htop]
    exact hleft

end

end

end Sys2Proof.Machine
end

section
/-! SUPPORT. The pickup queues after every change that a command makes. -/

namespace Sys2Proof.Machine

/-! ## Records that are offered, and records that are not -/

section
variable {s t : State} {h : Handle} {r : Record}

/-- Only a STAGED record is offered (R95). -/
theorem Record.offer_of_not_staged (hstate : r.custody.state ≠ .staged) (top : Nat → Option Handle) (h : Handle) :
    r.placed.offer top h = none := by
  simp only [Record.placed, Placed.offer]
  cases hc : r.custody <;> simp [Custody.place, Custody.state, hc] at hstate ⊢

theorem State.offer_of_not_staged (hrec : s.recordOf h = some r) (hstate : r.custody.state ≠ .staged) : s.offer h = none :=
  (State.offer_of_placed (State.placed_of_recordOf hrec)).trans (Record.offer_of_not_staged hstate _ _)

section
variable {R : Word → PickupEntry → PickupEntry → Prop}

/-- A record is written or retired, no cell's top changes, and the queues show the record's new offer. -/
theorem State.QueuesKept.written {p : Option Placed}
    (ht : t.QueuesKept R (Function.update s.offer h (p.bind (·.offer s.cellTop h))))
    (hplaced : t.placed = Function.update s.placed h p) (htop : t.cellTop = s.cellTop) : t.QueuesKept R t.offer := by
  rw [State.offer_update hplaced htop]
  exact ht

/-- A record that was not offered is written and is not offered after it: the queues stay. -/
theorem State.QueuesKept.unoffered (hs : s.QueuesKept R s.offer) {p : Option Placed} (hwas : s.offer h = none)
    (hnow : p.bind (·.offer s.cellTop h) = none) (hunit : t.queueUnit = s.queueUnit)
    (hplaced : t.placed = Function.update s.placed h p) (htop : t.cellTop = s.cellTop) : t.QueuesKept R t.offer := by
  rw [State.offer_update hplaced htop, hnow, ← hwas, Function.update_eq_self]
  exact hs.congr hunit

end

end

/-! ## Which queues and tops the operations leave -/

section
variable (s : State) (h : Handle) (r : Record)

theorem State.bookRecord_queueUnit (n : Nat) (l : Link) (k : Nat) (receiver : Option Nat) (m : Option (Nat × Rule)) :
    (s.bookRecord n l h r k receiver m).queueUnit = s.queueUnit := by
  simp only [State.bookRecord, State.startTiming_eq, State.closeCheck_queueUnit]
  exact State.modCell_queueUnit _ _ _

theorem State.bookRecord_cellTop (n : Nat) (l : Link) (k : Nat) (receiver : Option Nat) (m : Option (Nat × Rule)) :
    (s.bookRecord n l h r k receiver m).cellTop = s.cellTop := by
  simp only [State.bookRecord, State.startTiming_eq, State.closeCheck_cellTop]
  exact State.modCell_cellTop _ _ fun _ => rfl

theorem State.endBooking_queueUnit (carrier k : Nat) (lapsed : Option Nat) :
    (s.endBooking h r carrier k lapsed).queueUnit = s.queueUnit :=
  (State.closeCheck_queueUnit _ _).trans (State.modCell_queueUnit (s.disarm h) _ _)

theorem State.endBooking_cellTop (carrier k : Nat) (lapsed : Option Nat) :
    (s.endBooking h r carrier k lapsed).cellTop = s.cellTop :=
  (State.closeCheck_cellTop _ _).trans (State.modCell_cellTop (s.disarm h) _ fun _ => rfl)

theorem State.grant_queueUnit (n : Nat) (l : Link) (spot : Spot) :
    (s.grant n l h r spot).queueUnit = (s.leave h).queueUnit := by
  simp only [State.grant, State.startTiming_eq, State.setParty, State.putRecord_queueUnit, State.modTimer_queueUnit,
    State.modRobot_queueUnit]

theorem State.grant_cellTop (n : Nat) (l : Link) (spot : Spot) : (s.grant n l h r spot).cellTop = s.cellTop := by
  simp only [State.grant, State.startTiming_eq]
  exact (State.modRobot_cellTop (s.leave h) _ _).trans (s.leave_cellTop h)

theorem State.endClaim_cellTop (spot : Spot) (claimant : Nat) (lapsed : Option Nat) :
    (s.endClaim h r spot claimant lapsed).cellTop = s.cellTop :=
  State.modRobot_cellTop (s.disarm h) _ _

theorem State.claimLapse_queueUnit (spot : Spot) (claimant : Nat) :
    (s.claimLapse h r spot claimant).queueUnit = (s.endClaim h r spot claimant (some claimant)).queueUnit := by
  simp only [State.claimLapse]
  split <;> simp only [State.post, State.countEvent, State.modNotices_queueUnit, State.modRobot_queueUnit]

theorem State.post_cellTop (q : QueueId) (x : Notice) : (s.post q x).cellTop = s.cellTop := rfl

theorem State.countEvent_cellTop (e : EventKind) (zone amount : Nat) : (s.countEvent e zone amount).cellTop = s.cellTop :=
  rfl

theorem State.claimLapse_cellTop (spot : Spot) (claimant : Nat) :
    (s.claimLapse h r spot claimant).cellTop = s.cellTop := by
  refine Eq.trans ?_ (s.endClaim_cellTop h r spot claimant (some claimant))
  simp only [State.claimLapse]
  split <;> simp only [State.post_cellTop, State.countEvent_cellTop, State.modRobot_cellTop]

theorem State.visit_eq (slot : Nat) : ∃ records overdues notices,
    s.visit slot =
      { s with engine := { s.engine with records := records, overdues := overdues }, notices := notices } := by
  unfold State.visit
  split
  · exact ⟨_, _, _, rfl⟩
  · simp only
    split <;> split <;> split <;> exact ⟨_, _, _, rfl⟩

theorem State.visit_queueUnit (slot : Nat) : (s.visit slot).queueUnit = s.queueUnit := by
  obtain ⟨records, overdues, notices, hvisit⟩ := s.visit_eq slot
  rw [hvisit]
  rfl

theorem State.visit_cellTop (slot : Nat) : (s.visit slot).cellTop = s.cellTop := by
  obtain ⟨records, overdues, notices, hvisit⟩ := s.visit_eq slot
  rw [hvisit]
  rfl

theorem State.openRecord_queueUnit (n slot : Nat) : (s.openRecord n slot r).queueUnit = s.queueUnit := by
  rw [State.openRecord_eq]
  rfl

theorem State.openRecord_cellTop (n slot : Nat) : (s.openRecord n slot r).cellTop = s.cellTop := by
  rw [State.openRecord_eq]
  rfl

theorem State.retired_queueUnit (pickup : Table (List PickupEntry)) :
    (s.retired h r pickup).queueUnit = (pickup, s.engine.stageSeq) := rfl

theorem State.retire_queueUnit :
    (s.retire h r).queueUnit = (((s.unindexed r.bin).leaveCell h r.custody).leave h).queueUnit := by
  have hcounter : (((s.unindexed r.bin).leaveCell h r.custody).leave h).engine.stageSeq = s.engine.stageSeq :=
    (State.leave_stageSeq _ _).trans (State.leaveCell_stageSeq _ _ _)
  have hretired : (s.retired h r (((s.unindexed r.bin).leaveCell h r.custody).leave h).pickup).queueUnit =
      (((s.unindexed r.bin).leaveCell h r.custody).leave h).queueUnit := by
    rw [State.retired_queueUnit, State.queueUnit, hcounter]
  rw [State.retire_eq, ← hretired]
  dsimp only
  split
  · exact State.closeCheck_queueUnit _ _
  · rfl

theorem State.retire_cellTop : (s.retire h r).cellTop = ((s.unindexed r.bin).leaveCell h r.custody).cellTop := by
  have hretired : ∀ pickup, (s.retired h r pickup).cellTop = ((s.unindexed r.bin).leaveCell h r.custody).cellTop :=
    fun pickup => by
      rw [State.leaveCell_eq]
      rfl
  rw [State.retire_eq]
  dsimp only
  split
  · exact (State.closeCheck_cellTop _ _).trans (hretired _)
  · exact hretired _

end

/-! ## The changes one by one -/

section
variable {R : Word → PickupEntry → PickupEntry → Prop} (hR : ∀ c x y, pickupLe c x y = true → R c x y)
variable {s t : State} {h : Handle} {r : Record}

include hR in
/-- A grant takes the record out of its queues (R68, R100). -/
theorem State.QueuesKept.grant (hs : s.QueuesKept R s.offer) (hrec : s.recordOf h = some r) (n : Nat) (l : Link)
    (spot : Spot) : (s.grant n l h r spot).QueuesKept R (s.grant n l h r spot).offer :=
  ((hs.leave hR h).congr (s.grant_queueUnit h r n l spot)).written
    (State.placed_rewritten hrec (s.side_grant h r n l spot).tables) (s.grant_cellTop h r n l spot)

include hR in
/-- A claim that ends without a TAKEUP puts the record back into its queues (R72, R101). -/
theorem State.QueuesKept.claimEnded (hs : s.QueuesKept R s.offer) (hready : s.StacksReady) (hrec : s.recordOf h = some r)
    {spot : Spot} {claimant : Nat} {timing : Timing} (hcustody : r.custody = .claimed spot claimant timing)
    {lapsed : Option Nat} (hunit : t.queueUnit = (s.endClaim h r spot claimant lapsed).queueUnit)
    (htables : t.tables = (s.rewritten h.slot { r with custody := .staged spot lapsed } (s.disarmed h) s.plans).tables)
    (htop : t.cellTop = s.cellTop) : t.QueuesKept R t.offer := by
  have hclaimed : s.placed h = some ⟨.claimed spot, r.priority⟩ := State.placed_of_custody hrec hcustody
  have hnone : s.offer h = none := State.offer_of_placed hclaimed
  have hstaged : ((s.disarm h).setParty claimant none).QueuesKept R s.offer := hs.congr (State.modRobot_queueUnit _ _ _)
  have hentered := (hstaged.congr (t := ((s.disarm h).setParty claimant none).putRecord h.slot
    { r with custody := .staged spot lapsed }) rfl).enter hR hnone ⟨spot.mask, r.priority, spot.seq⟩
  refine State.QueuesKept.written (p := some ⟨.staged spot, r.priority⟩) ?_ (State.placed_rewritten hrec htables) htop
  have hoffer : Placed.offer s.cellTop h ⟨.staged spot, r.priority⟩ = some ⟨spot.mask, r.priority, spot.seq⟩ :=
    if_pos (hready.claimedTop h spot r.priority hclaimed)
  rw [Option.bind_some, hoffer]
  exact hentered.congr hunit

/-- The stage sequence counter one further, as a SETDOWN leaves it (R8). -/
def State.ticked (s : State) : State := s.modEngine fun e => { e with stageSeq := e.stageSeq + 1 }

/-- The offers once a SETDOWN has buried the bin on top of a cell, if there is one (R99). -/
def buriedOffers (offers : Handle → Option Offer) : Option Handle → Handle → Option Offer
  | some b => Function.update offers b none
  | none => offers

theorem buriedOffers_of_top {offers : Handle → Option Offer} (b : Handle) : buriedOffers offers (some b) b = none :=
  Function.update_self (f := offers) ..

theorem buriedOffers_of_ne {offers : Handle → Option Offer} {top : Option Handle} {x : Handle} (hx : top ≠ some x) :
    buriedOffers offers top x = offers x := by
  cases top with
  | none => rfl
  | some b => exact Function.update_of_ne (fun heq : x = b => hx (congrArg some heq.symm)) ..

include hR in
theorem State.QueuesKept.buried (hs : s.ticked.QueuesKept R s.offer) (top : Option Handle) :
    (s.buried top).QueuesKept R (buriedOffers s.offer top) := by
  cases top with
  | none => exact hs
  | some b => exact hs.leave hR b

/-- A SETDOWN puts its bin on top of the cell and leaves the tops of the others (R65). -/
theorem State.stageRecord_cellTop (s : State) (h : Handle) (r : Record) (carrier k : Nat) (receiver : Option Nat)
    (mask : Byte) {c : Cell} (hc : s.cell k = some c) (m : Nat) :
    (s.stageRecord h r carrier k receiver mask).cellTop m = if m = k then some h else s.cellTop m := by
  have hcell : (s.stageRecord h r carrier k receiver mask).cell m =
      (s.engine.cells.modify k fun c => { c with stack := c.stack ++ [h], reserved := c.reserved - 1 }).look m := by
    rw [State.stageRecord_eq]
    rfl
  have hlook : s.engine.cells.look k = some c := hc
  rw [State.cellTop, hcell, Table.look_modify, hlook]
  split
  · simp
  · rfl

/-- The offers after a SETDOWN: the bin it places is offered, the one it buries is not any more, the others as they were. -/
theorem State.offer_stageRecord (hready : s.StacksReady) (hrec : s.recordOf h = some r) (carrier : Nat) {k : Nat}
    (receiver : Option Nat) (mask : Byte) {c : Cell} (hc : s.cell k = some c) :
    (s.stageRecord h r carrier k receiver mask).offer =
      Function.update (buriedOffers s.offer (s.cellTop k)) h (some ⟨mask, r.priority, s.engine.stageSeq⟩) := by
  have htops := s.stageRecord_cellTop h r carrier k receiver mask hc
  have hplaced := State.placed_rewritten hrec (s.side_stageRecord h r carrier k receiver mask).tables
  funext x
  by_cases hx : x = h
  · subst hx
    rw [Function.update_self, State.offer, hplaced, Function.update_self, Option.bind_some]
    exact if_pos ((htops k).trans (if_pos rfl))
  have hkept : (s.stageRecord h r carrier k receiver mask).placed x = s.placed x := by
    rw [hplaced, Function.update_of_ne hx]
  have hcovered : (s.stageRecord h r carrier k receiver mask).cellTop k ≠ some x := by
    rw [htops, if_pos rfl]
    exact fun heq => hx (Option.some.inj heq).symm
  rw [Function.update_of_ne hx]
  by_cases htop : s.cellTop k = some x
  · have hmem : x ∈ c.stack := List.mem_of_getLast? ((State.cellTop_of_cell s hc).symm.trans htop)
    obtain ⟨⟨place, prio⟩, spot, hp, hspot, hn⟩ := hready.listed k c x hc hmem
    rw [htop, buriedOffers_of_top, State.offer_of_placed (hkept.trans hp)]
    cases place with
    | carried | booked | claimed => rfl
    | staged =>
      cases hspot
      exact if_neg (hn ▸ hcovered)
  · rw [buriedOffers_of_ne htop]
    refine State.offer_eq_of_top hkept fun spot prio _ => ?_
    by_cases hn : spot.cell = k
    · rw [hn]
      exact iff_of_false hcovered htop
    · rw [htops, if_neg hn]

include hR in
/-- A SETDOWN takes the bin it buries out of the queues and puts the bin it places into them (R99). -/
theorem State.QueuesKept.stageRecord (hs : s.ticked.QueuesKept R s.offer) (hready : s.StacksReady)
    (hrec : s.recordOf h = some r) {carrier k : Nat} {receiver : Option Nat} {ov : Option Byte} {timing : Timing}
    (hcustody : r.custody = .booked carrier k receiver ov timing) (mask : Byte) :
    (s.stageRecord h r carrier k receiver mask).QueuesKept R (s.stageRecord h r carrier k receiver mask).offer := by
  have hbooked : s.placed h = some ⟨.booked k, r.priority⟩ := State.placed_of_custody hrec hcustody
  obtain ⟨c, hc⟩ := Option.isSome_iff_exists.1 (hready.bookedCell h k r.priority hbooked)
  have hnone : buriedOffers s.offer (s.cellTop k) h = none := by
    by_cases htop : s.cellTop k = some h
    · rw [htop, buriedOffers_of_top]
    · rw [buriedOffers_of_ne htop]
      exact State.offer_of_placed hbooked
  obtain ⟨pickup, hburied⟩ := s.buried_eq (s.cellTop k)
  have hkept := hs.buried hR (s.cellTop k)
  rw [State.offer_stageRecord hready hrec carrier receiver mask hc, State.stageRecord_eq]
  refine State.QueuesKept.congr (State.QueuesKept.enter hR (State.QueuesKept.congr hkept ?_) hnone
    ⟨mask, r.priority, s.engine.stageSeq⟩) (State.modNotices_queueUnit _ _)
  rw [hburied]
  rfl

/-- The record that a TAKEUP lifts, and its party, written before the bin leaves its stack (R74). -/
def State.pickedUp (s : State) (h : Handle) (r : Record) (claimant : Nat) : State :=
  ((s.disarm h).modRobot claimant fun e => { e with party := some (h, .carrier), misses := 0 }).putRecord h.slot
    (takenUp r claimant)

theorem State.pickedUp_queueUnit (s : State) (h : Handle) (r : Record) (claimant : Nat) :
    (s.pickedUp h r claimant).queueUnit = s.queueUnit :=
  (State.putRecord_queueUnit _ _ _).trans (State.modRobot_queueUnit _ _ _)

theorem State.pickedUp_cells (s : State) (h : Handle) (r : Record) (claimant : Nat) :
    (s.pickedUp h r claimant).engine.cells = s.engine.cells := by
  rw [State.pickedUp, State.modRobot_eq_modify]
  rfl

theorem State.pickedUp_cellTop (s : State) (h : Handle) (r : Record) (claimant : Nat) :
    (s.pickedUp h r claimant).cellTop = s.cellTop :=
  State.modRobot_cellTop (s.disarm h) _ _

theorem State.placed_pickedUp {s : State} {h : Handle} {r : Record} (hrec : s.recordOf h = some r) (claimant : Nat) :
    (s.pickedUp h r claimant).placed = Function.update s.placed h (some (takenUp r claimant).placed) := by
  refine State.placed_rewritten (list := s.disarmed h) (plans := s.plans) hrec ?_
  rw [State.pickedUp, State.modRobot_eq_modify]
  rfl

theorem State.takeupRecord_queueUnit (s : State) (h : Handle) (r : Record) (spot : Spot) (claimant : Nat) :
    (s.takeupRecord h r spot claimant).queueUnit = ((s.pickedUp h r claimant).unstack spot.cell h).queueUnit :=
  (State.closeCheck_queueUnit _ _).trans (State.modNotices_queueUnit _ _)

theorem State.takeupRecord_cellTop (s : State) (h : Handle) (r : Record) (spot : Spot) (claimant : Nat) :
    (s.takeupRecord h r spot claimant).cellTop = ((s.pickedUp h r claimant).unstack spot.cell h).cellTop :=
  (State.closeCheck_cellTop _ _).trans (State.countEvent_cellTop _ _ _ _)

include hR in
/-- A TAKEUP uncovers the bin beneath the one it lifts (R75, R102). -/
theorem State.QueuesKept.takeupRecord (hs : s.QueuesKept R s.offer) (hready : s.StacksReady)
    (hrec : s.recordOf h = some r) {spot : Spot} {claimant : Nat} {timing : Timing}
    (hcustody : r.custody = .claimed spot claimant timing) :
    (s.takeupRecord h r spot claimant).QueuesKept R (s.takeupRecord h r spot claimant).offer := by
  have hclaimed : s.placed h = some ⟨.claimed spot, r.priority⟩ := State.placed_of_custody hrec hcustody
  have htop := hready.claimedTop h spot r.priority hclaimed
  have hplaced := State.placed_pickedUp hrec claimant
  have hpicked : (s.pickedUp h r claimant).QueuesKept R (s.pickedUp h r claimant).offer :=
    hs.unoffered (State.offer_of_placed hclaimed) rfl (s.pickedUp_queueUnit h r claimant) hplaced
      (s.pickedUp_cellTop h r claimant)
  have hunstacked := hpicked.unstack (n := spot.cell) (h := h) hR fun x _ hx => by
    rw [State.cellTop_unstack_congr (s.pickedUp_cells h r claimant)] at hx
    obtain ⟨hne, hnone, spot', prio, hp, hcell⟩ := hready.uncovered htop hx
    have hkept : (s.pickedUp h r claimant).placed x = s.placed x := by rw [hplaced, Function.update_of_ne hne]
    refine ⟨?_, spot', prio, hkept.trans hp, hcell⟩
    rw [← hnone]
    exact State.offer_eq_of_top hkept fun _ _ _ => by rw [s.pickedUp_cellTop h r claimant]
  have hoffers : (s.takeupRecord h r spot claimant).offer =
      (s.pickedUp h r claimant).offersUncovered spot.cell h (s.pickedUp h r claimant).offer := by
    have hsame : (s.takeupRecord h r spot claimant).placed = ((s.pickedUp h r claimant).unstack spot.cell h).placed := by
      rw [State.placed_unstack, hplaced]
      exact State.placed_rewritten hrec (s.side_takeupRecord h r spot claimant).tables
    rw [State.offer_congr hsame (s.takeupRecord_cellTop h r spot claimant)]
    refine funext fun x => State.offer_unstack _ _ fun spot' prio hp hx => ?_
    rw [hx, hplaced, Function.update_self] at hp
    cases hp
  rw [hoffers]
  exact hunstacked.congr (s.takeupRecord_queueUnit h r spot claimant)

/-! ## Retirement -/

theorem State.placed_retire (hrec : s.recordOf h = some r) : (s.retire h r).placed = Function.update s.placed h none :=
  (State.placed_congr (s.side_retire h r).tables).trans (State.placed_of_update (State.recordOf_removed hrec))

theorem State.leaveCell_of_no_spot (s : State) (h : Handle) {c : Custody} (hspot : c.spot = none) :
    (s.leaveCell h c).queueUnit = s.queueUnit ∧ (s.leaveCell h c).cellTop = s.cellTop := by
  cases c with
  | carried => exact ⟨rfl, rfl⟩
  | booked => exact ⟨State.modCell_queueUnit _ _ _, State.modCell_cellTop _ _ fun _ => rfl⟩
  | staged | claimed => cases hspot

include hR in
/-- A retirement takes the record out of its queues, and uncovers the bin beneath it when it was on top (R23, R102). -/
theorem State.QueuesKept.retire (hs : s.QueuesKept R s.offer) (hready : s.StacksReady) (hrec : s.recordOf h = some r) :
    (s.retire h r).QueuesKept R (s.retire h r).offer := by
  have hplaced := State.placed_retire hrec
  have hwas : (s.unindexed r.bin).QueuesKept R s.offer := hs.congr rfl
  cases hspot : r.custody.spot with
  | none =>
    obtain ⟨hunit, htop⟩ := (s.unindexed r.bin).leaveCell_of_no_spot h hspot
    exact State.QueuesKept.written (((hwas.congr hunit).leave hR h).congr (s.retire_queueUnit h r)) hplaced
      ((s.retire_cellTop h r).trans htop)
  | some spot =>
    have hleave := State.leaveCell_of_spot (s.unindexed r.bin) h hspot
    have hunstacked := hwas.unstack (n := spot.cell) (h := h) hR fun x htop hx =>
      (hready.congr (t := s.unindexed r.bin) rfl rfl).uncovered htop hx |>.2
    have hoffers : (s.retire h r).offer =
        Function.update ((s.unindexed r.bin).offersUncovered spot.cell h s.offer) h none := by
      funext x
      by_cases hx : x = h
      · rw [hx, Function.update_self, State.offer, hplaced, Function.update_self, Option.bind_none]
      · have htop := s.retire_cellTop h r
        rw [hleave] at htop
        have hkept : (s.retire h r).placed x = ((s.unindexed r.bin).unstack spot.cell h).placed x := by
          rw [hplaced, Function.update_of_ne hx, State.placed_unstack]
          rfl
        rw [Function.update_of_ne hx, State.offer_eq_of_top hkept fun _ _ _ => by rw [htop]]
        exact State.offer_unstack _ _ fun _ _ _ => hx
    rw [hoffers]
    refine (hunstacked.leave hR h).congr ?_
    rw [State.retire_queueUnit, hleave]

end

/-! ## The overdue event -/

section
variable {R : Word → PickupEntry → PickupEntry → Prop} (hR : ∀ c x y, pickupLe c x y = true → R c x y)
variable {s t : State} {h : Handle} {r : Record}

theorem State.stagedTop_eq (s : State) (h : Handle) (r : Record) :
    s.stagedTop h r = (r.placed.offer s.cellTop h).isSome := by
  simp only [State.stagedTop, Record.placed, Placed.offer]
  cases r.custody with
  | staged spot lapsed => by_cases htop : s.cellTop spot.cell = some h <;> simp [Custody.place, htop]
  | carried | booked | claimed => rfl

/-- The offer of a record with another priority. -/
theorem Record.offer_reprioritised (r : Record) (priority : Nat) (top : Nat → Option Handle) (h : Handle) :
    ({ r with priority := priority } : Record).placed.offer top h =
      (r.placed.offer top h).map fun o => { o with priority := priority } := by
  simp only [Record.placed, Placed.offer]
  cases r.custody with
  | staged spot lapsed => by_cases htop : top spot.cell = some h <;> simp [Custody.place, htop]
  | carried | booked | claimed => rfl

/-- The mask of a plan's leg 0, the receiver mask after a switch onto the plan (R129, R130). -/
def Plan.firstMask (p : Plan) : Byte := (p.legs.head?.map (·.mask)).getD 0

/-- The offer of a record after a rescue switch. -/
theorem Record.offer_switched (r : Record) (k : Nat) (p : Plan) (top : Nat → Option Handle) (h : Handle) :
    (r.switched k p).placed.offer top h = (r.placed.offer top h).map fun o => { o with mask := p.firstMask } := by
  simp only [Record.placed, Placed.offer, Record.switched]
  cases r.custody with
  | staged spot lapsed => by_cases htop : top spot.cell = some h <;> simp [Custody.place, Custody.rescued, htop, Plan.firstMask]
  | carried | booked | claimed => rfl

theorem State.raised_tables (s : State) (h : Handle) (r : Record) :
    (s.raised h r).tables = (s.rewritten h.slot { r with priority := 3 } s.timer.list s.plans).tables := by
  unfold State.raised
  dsimp only
  split
  · exact (State.side_pickup _ _).tables
  · rfl

theorem State.raised_cellTop (s : State) (h : Handle) (r : Record) : (s.raised h r).cellTop = s.cellTop := by
  unfold State.raised
  dsimp only
  split
  · rw [State.priorityChange_eq]
    exact State.cellTop_setPickup _ _
  · rfl

include hR in
/-- An overdue event raises the priority of the record's entries (R103). -/
theorem State.QueuesKept.raised (hs : s.QueuesKept R s.offer) (hrec : s.recordOf h = some r) :
    (s.raised h r).QueuesKept R (s.raised h r).offer := by
  have hoffer := State.offer_of_placed (State.placed_of_recordOf hrec)
  refine State.QueuesKept.written ?_ (State.placed_rewritten hrec (s.raised_tables h r)) (s.raised_cellTop h r)
  rw [Option.bind_some, Record.offer_reprioritised, ← hoffer]
  have hput : (s.putRecord h.slot { r with priority := 3 }).QueuesKept R s.offer := hs.congr rfl
  unfold State.raised
  dsimp only
  split
  · exact hput.priorityChange hR h 3
  · next htop =>
    rw [State.stagedTop_eq, ← hoffer, Option.not_isSome_iff_eq_none] at htop
    rw [htop, Option.map_none, ← htop, Function.update_eq_self]
    exact hput

/-- The plans counted anew and the record switched: how a rescue begins (R118, R127). -/
def State.replanned (s : State) (h : Handle) (r : Record) (k : Nat) (p : Plan) : State :=
  ((match r.route with
    | some route => s.planDown route.plan
    | none => s).planUp k).putRecord h.slot (r.switched k p)

theorem State.replanned_queueUnit (s : State) (h : Handle) (r : Record) (k : Nat) (p : Plan) :
    (s.replanned h r k p).queueUnit = s.queueUnit := by
  rw [State.replanned, State.putRecord_queueUnit, State.planUp, State.modPlan_queueUnit]
  split
  · exact s.modPlan_queueUnit _ _
  · rfl

theorem State.replanned_cellTop (s : State) (h : Handle) (r : Record) (k : Nat) (p : Plan) :
    (s.replanned h r k p).cellTop = s.cellTop := by
  refine (State.modPlan_cellTop _ _ _).trans ?_
  split
  · exact s.modPlan_cellTop _ _
  · rfl

/-- What a rescue does to the queues: a STAGED top's memberships follow its new mask, and no other record is in a queue
(R104). -/
theorem State.rescue_eq (s : State) (h : Handle) (r : Record) (k : Nat) (p : Plan) :
    s.rescue h r k p =
      (match r.placed.offer s.cellTop h with
        | some o => (s.replanned h r k p).maskChange h o.mask p.firstMask o.priority o.seq
        | none => s.replanned h r k p).post .thermal
        (recordNotice .rescueApplied h r r.custody.party r.custody.cell r.presentZone (byteOf k)) := by
  have hrescued : (r.switched k p).custody = r.custody.rescued p.firstMask := rfl
  cases hc : r.custody with
  | staged spot lapsed =>
    by_cases htop : s.cellTop spot.cell = some h <;>
      simp only [State.rescue, State.stagedTop, Record.placed, Placed.offer, hrescued, hc, Custody.place, Custody.spot,
        Custody.rescued, htop, beq_iff_eq, if_true, if_false] <;> rfl
  | carried | booked | claimed =>
    simp only [State.rescue, State.stagedTop, Record.placed, Placed.offer, hrescued, hc, Custody.place, Custody.spot,
      Custody.rescued]
    rfl

theorem State.rescue_cellTop (s : State) (h : Handle) (r : Record) (k : Nat) (p : Plan) :
    (s.rescue h r k p).cellTop = s.cellTop := by
  rw [State.rescue_eq, State.post_cellTop]
  split
  · rw [State.maskChange_cellTop, State.replanned_cellTop]
  · exact s.replanned_cellTop h r k p

include hR in
theorem State.QueuesKept.rescue (hs : s.QueuesKept R s.offer) (hrec : s.recordOf h = some r)
    (hmask : ∀ o, s.offer h = some o → o.mask ≠ 0) (k : Nat) (p : Plan) :
    (s.rescue h r k p).QueuesKept R (s.rescue h r k p).offer := by
  have hoffer := State.offer_of_placed (State.placed_of_recordOf hrec)
  have hreplanned : (s.replanned h r k p).QueuesKept R s.offer := hs.congr (s.replanned_queueUnit h r k p)
  refine State.QueuesKept.written ?_ (State.placed_rewritten hrec (s.side_rescue h r k p).tables) (s.rescue_cellTop h r k p)
  rw [Option.bind_some, Record.offer_switched, ← hoffer]
  rw [State.rescue_eq, ← hoffer]
  cases ho : s.offer h with
  | none =>
    have hsame : Function.update s.offer h none = s.offer := by rw [← ho, Function.update_eq_self]
    rw [Option.map_none, hsame]
    exact hreplanned.congr (State.modNotices_queueUnit _ _)
  | some o => exact (hreplanned.maskChange hR ho (hmask o ho) p.firstMask).congr (State.modNotices_queueUnit _ _)

include hR in
/-- An overdue event keeps the queues, whatever it decides on the rescue (R103, R104). -/
theorem State.QueuesKept.overdueTaken (hs : s.QueuesKept R s.offer) (hready : s.StacksReady)
    (hrec : s.recordOf h = some r) : (s.overdueTaken h).QueuesKept R (s.overdueTaken h).offer := by
  have hraised := hs.raised hR hrec
  have hrec' : (s.raised h r).recordOf h = some { r with priority := 3 } := by
    rw [State.recordOf_congr (s.raised_tables h r), State.recordOf_rewritten_eq hrec, Function.update_self]
  have hmask : ∀ o, (s.raised h r).offer h = some o → o.mask ≠ 0 := by
    intro o ho
    obtain ⟨r', spot, lapsed, hr', hcustody, -, rfl⟩ := State.offer_eq_some.1 ho
    rw [hrec'] at hr'
    cases hr'
    exact hready.masks h spot r.priority (State.placed_of_custody hrec hcustody)
  rw [State.overdueTaken_eq hrec]
  refine State.QueuesKept.unchanged (s := (s.raised h r).decideRescue h { r with priority := 3 }) ?_ rfl rfl rfl
  unfold State.decideRescue
  split
  · exact hraised
  split
  · exact hraised
  split
  · exact hraised.unchanged rfl rfl rfl
  · exact hraised.rescue hR hrec' hmask _ _

end

end Sys2Proof.Machine
end

section
/-! SUPPORT. The pickup queues after every step: their law and their order. -/

namespace Sys2Proof.Machine

/-! ## The laws as queues that show the offers -/

/-- No record stands before one of higher priority (R96). -/
def ranked (_ : Word) (x y : PickupEntry) : Prop := y.priority ≤ x.priority

/-- The order of R96 (log 7). -/
def aged (counter : Word) (x y : PickupEntry) : Prop := pickupLe counter x y = true

theorem ranked_of_pickupLe (counter : Word) (x y : PickupEntry) (h : pickupLe counter x y = true) : ranked counter x y := by
  rw [pickupLe_iff] at h
  unfold ranked
  omega

/-- A member of a queue stands for an offer, as the law says it. -/
theorem State.offer_eq_some_entry {s : State} {g : Nat} {e : PickupEntry} :
    (∃ mask, s.offer e.handle = some ⟨mask, e.priority, e.seq⟩ ∧ mask.getLsbD g = true) ↔
      ∃ r spot lapsed, s.recordOf e.handle = some r ∧ r.custody = .staged spot lapsed ∧
        s.cellTop spot.cell = some e.handle ∧ spot.mask.getLsbD g = true ∧ e.priority = r.priority ∧ e.seq = spot.seq := by
  simp only [State.offer_eq_some, Offer.mk.injEq]
  constructor
  · rintro ⟨mask, ⟨r, spot, lapsed, hrec, hcustody, htop, rfl, hprio, hseq⟩, hbit⟩
    exact ⟨r, spot, lapsed, hrec, hcustody, htop, hbit, hprio, hseq⟩
  · rintro ⟨r, spot, lapsed, hrec, hcustody, htop, hbit, hprio, hseq⟩
    exact ⟨spot.mask, ⟨r, spot, lapsed, hrec, hcustody, htop, rfl, hprio, hseq⟩, hbit⟩

theorem State.queueLaw_iff (s : State) : s.queueLaw ↔ s.QueuesKept ranked s.offer := by
  have hshows : ∀ g, Shows g s.offer (s.queueOf g) ↔ ((s.queueOf g).map (·.handle)).Nodup ∧ ∀ e, e ∈ s.queueOf g ↔
      ∃ r spot lapsed, s.recordOf e.handle = some r ∧ r.custody = .staged spot lapsed ∧
        s.cellTop spot.cell = some e.handle ∧ spot.mask.getLsbD g = true ∧ e.priority = r.priority ∧ e.seq = spot.seq :=
    fun g => by simp only [Shows, State.offer_eq_some_entry]
  constructor
  · intro hs
    refine ⟨fun g hg => (hshows g).2 ?_, fun g hg => ?_⟩
    · obtain ⟨hnodup, -, hmem⟩ := hs g hg
      exact ⟨hnodup, hmem⟩
    · obtain ⟨-, hranked, -⟩ := hs g hg
      exact hranked
  · rintro ⟨hs, hranked⟩ g hg
    obtain ⟨hnodup, hmem⟩ := (hshows g).1 (hs g hg)
    exact ⟨hnodup, hranked g hg, hmem⟩

/-! ## The counter moves on -/

/-- One more SETDOWN makes every entry older by one, unless its age wraps. -/
theorem seqAge_succ {counter seq : Word} (h : seqAge counter seq + 1 < 2 ^ 32) :
    seqAge (counter + 1) seq = seqAge counter seq + 1 := by
  simp only [seqAge] at *
  bv_omega

/-- Entries too young to wrap stand in the same order as before when the counter moves on. -/
theorem aged_succ {counter : Word} {x y : PickupEntry} (hx : seqAge counter x.seq + 1 < 2 ^ 32)
    (hy : seqAge counter y.seq + 1 < 2 ^ 32) (h : aged counter x y) : aged (counter + 1) x y := by
  rw [aged, pickupLe_iff] at h ⊢
  rw [seqAge_succ hx, seqAge_succ hy]
  omega

theorem State.QueuesKept.ticked_aged {s : State} {offers : Handle → Option Offer} (hs : s.QueuesKept aged offers)
    (hyoung : s.queuesYoung) : s.ticked.QueuesKept aged offers :=
  ⟨hs.shows, fun g hg =>
    (hs.related g hg).imp_of_mem fun hx hy => aged_succ (hyoung g hg _ hx) (hyoung g hg _ hy)⟩

/-! ## Before a step's change -/

/-- What a step's change needs to keep the queues: the laws of slots and stacks, and queues that show the offers and are in
order, also when the change begins by moving the counter on. -/
structure State.QueuesReady (R : Word → PickupEntry → PickupEntry → Prop) (s : State) : Prop where
  slots : s.slotLaw
  piled : s.StacksReady
  kept : s.QueuesKept R s.offer
  ticked : s.ticked.QueuesKept R s.offer

section
variable {R : Word → PickupEntry → PickupEntry → Prop} {s t : State}

theorem State.cellTop_congr (hcells : t.engine.cells = s.engine.cells) : t.cellTop = s.cellTop :=
  funext fun n => by simp only [State.cellTop, State.cell, hcells]

theorem State.Quiet.queueUnit (h : s.Quiet t) : t.queueUnit = s.queueUnit :=
  Prod.ext (congrArg CustodyView.pickup h.view) (congrArg CustodyView.stageSeq h.view)

theorem State.Quiet.queuesKept (h : s.Quiet t) (hs : s.QueuesKept R s.offer) : t.QueuesKept R t.offer :=
  hs.unchanged h.queueUnit (State.placed_congr h.tables) (State.cellTop_congr h.cells)

theorem State.QueuesReady.congr (hs : s.QueuesReady R) (hslots : t.slotLaw) (hplaced : t.placed = s.placed)
    (hcells : t.engine.cells = s.engine.cells) (hunit : t.queueUnit = s.queueUnit) : t.QueuesReady R := by
  have htop := State.cellTop_congr hcells
  have hticked : t.ticked.queueUnit = s.ticked.queueUnit := congrArg (fun u => (u.1, u.2 + 1)) hunit
  refine ⟨hslots, hs.piled.congr hplaced hcells, hs.kept.unchanged hunit hplaced htop, ?_⟩
  rw [State.offer_congr hplaced htop]
  exact hs.ticked.congr hticked

theorem State.Quiet.queuesReady (h : s.Quiet t) (hs : s.QueuesReady R) : t.QueuesReady R :=
  hs.congr (State.slotLaw_congr h.tables hs.slots) (State.placed_congr h.tables) h.cells h.queueUnit

theorem State.alignHold_cells (s : State) (slot : Nat) (up : Bool) :
    (s.alignHold slot up).engine.cells = s.engine.cells := by
  obtain ⟨records, list, h⟩ := s.alignHold_eq slot up
  rw [h]

theorem State.alignHold_queueUnit (s : State) (slot : Nat) (up : Bool) : (s.alignHold slot up).queueUnit = s.queueUnit := by
  obtain ⟨records, list, h⟩ := s.alignHold_eq slot up
  rw [h]
  rfl

/-- A robot heard on a link changes no place: its own record is BOOKED or CLAIMED, and keeps its place (R50). -/
theorem State.QueuesReady.linkUpdate (hs : s.QueuesReady R) (n : Nat) (l : Link) (e : Robot) :
    (s.linkUpdate n l e).QueuesReady R := by
  have hslots := State.slotLaw_linkUpdate hs.slots n l e
  have hheard : (s.heard n l e).QueuesReady R := hs.congr hs.slots rfl rfl rfl
  cases hparty : e.party with
  | none =>
    rw [State.linkUpdate_of_none hparty]
    exact hheard
  | some named =>
    rw [State.linkUpdate_of_party hparty] at hslots ⊢
    exact hheard.congr hslots (State.placed_alignHold _ _ _) (State.alignHold_cells _ _ _) (State.alignHold_queueUnit _ _ _)

end

/-! ## The change -/

section
variable {R : Word → PickupEntry → PickupEntry → Prop} {s t : State}

/-- A cell written with the stack it had leaves the queues and the tops. -/
theorem State.QueuesKept.putCell (hs : s.QueuesKept R s.offer) {n : Nat} {c : Cell}
    (hstack : c.stack.getLast? = s.cellTop n) : (s.putCell n c).QueuesKept R (s.putCell n c).offer :=
  hs.unchanged rfl rfl (s.cellTop_putCell hstack)

theorem State.QueuesKept.alignHold (hs : s.QueuesKept R s.offer) (slot : Nat) (up : Bool) :
    (s.alignHold slot up).QueuesKept R (s.alignHold slot up).offer :=
  hs.unchanged (s.alignHold_queueUnit slot up) (s.placed_alignHold slot up)
    (State.cellTop_congr (s.alignHold_cells slot up))

theorem State.QueuesKept.closeCheck (hs : s.QueuesKept R s.offer) (n : Nat) :
    (s.closeCheck n).QueuesKept R (s.closeCheck n).offer :=
  hs.unchanged (s.closeCheck_queueUnit n) (State.placed_congr (s.side_closeCheck n).tables) (s.closeCheck_cellTop n)

/-- After a device reset no record lives and every queue is empty (R95). -/
theorem State.queuesKept_deviceReset (s : State) : s.deviceReset.QueuesKept R s.deviceReset.offer := by
  have hqueue : ∀ g, s.deviceReset.queueOf g = [] := fun g => rfl
  have hoffer : ∀ h, s.deviceReset.offer h = none := fun h => by
    have hrec : s.deviceReset.recordOf h = none := ite_self _
    rw [State.offer, State.placed, hrec]
    rfl
  refine ⟨fun g _ => ?_, fun g _ => ?_⟩
  · rw [hqueue]
    exact ⟨List.nodup_nil, fun e => by simp [hoffer]⟩
  · rw [hqueue]
    exact List.Pairwise.nil

variable (hR : ∀ c x y, pickupLe c x y = true → R c x y)
include hR

/-- Every change keeps the queues: it leaves them, or hands them what becomes of the offers. -/
theorem State.Change.queuesKept (h : s.Change t) (hs : s.QueuesReady R) : t.QueuesKept R t.offer := by
  have hkept := hs.kept
  cases h with
  | none | robotEnrolled | robotWritten | robotWithdrawn | planWritten | planCleared | millisecond =>
    exact hkept.unchanged rfl rfl rfl
  | declared n bin zone prio slot cls plan wave m notice rest _ _ _ _ _ hfree hm =>
    obtain ⟨-, -, -, -, -, -, hfrees, -⟩ := hs.slots
    have hnone : s.engine.records.look slot = Option.none := ((hfrees slot).1 (by rw [hfree]; simp)).2
    have hrule := s.quiet_takeRule m hm notice false
    have hwas : (s.takeRule m notice false).offer ((s.takeRule m notice false).handleOf slot) = Option.none := by
      rw [State.offer, State.placed, State.recordOf_handleOf, hrule.records, hnone]
      rfl
    exact (hrule.queuesKept hkept).unoffered (p := some (newRecord s n bin cls zone plan wave prio m).placed) hwas rfl
      (State.openRecord_queueUnit _ _ _ _)
      ((State.placed_congr (State.side_openRecord _ _ _ _).tables).trans
        (State.placed_of_update (State.recordOf_added _ _ _))) (State.openRecord_cellTop _ _ _ _)
  | booked n k l h r c lapsed receiver m notice _ hrec hcustody _ _ _ hm =>
    have hrule := s.quiet_takeRule m hm notice false
    have hrec' := (hrule.recordOf h).trans hrec
    exact (hrule.queuesKept hkept).unoffered (State.offer_of_not_staged hrec' (by rw [hcustody]; exact nofun)) rfl
      (State.bookRecord_queueUnit _ _ _ _ _ _ _ _)
      (State.placed_rewritten hrec' (State.side_bookRecord _ h r n l k receiver m).tables)
      (State.bookRecord_cellTop _ _ _ _ _ _ _ _)
  | bookingEnded h r carrier k receiver ov timing lapsed hrec hcustody =>
    exact hkept.unoffered (State.offer_of_not_staged hrec (by rw [hcustody]; exact nofun)) rfl
      (s.endBooking_queueUnit h r carrier k lapsed)
      (State.placed_rewritten hrec (s.side_endBooking h r carrier k lapsed).tables)
      (s.endBooking_cellTop h r carrier k lapsed)
  | staged h r carrier k receiver ov timing hrec hcustody =>
    exact hs.ticked.stageRecord hR hs.piled hrec hcustody _
  | granted n l h r spot lapsed _ _ hrec => exact hkept.grant hR hrec n l spot
  | claimEnded h r spot claimant timing hrec hcustody =>
    exact hkept.claimEnded hR hs.piled hrec hcustody rfl (s.side_endClaim h r spot claimant Option.none).tables
      (s.endClaim_cellTop h r spot claimant Option.none)
  | claimLapsed h r spot claimant timing hrec hcustody =>
    exact hkept.claimEnded hR hs.piled hrec hcustody (s.claimLapse_queueUnit h r spot claimant)
      (s.side_claimLapse h r spot claimant).tables (s.claimLapse_cellTop h r spot claimant)
  | takenUp h r spot claimant timing hrec hcustody => exact hkept.takeupRecord hR hs.piled hrec hcustody
  | retired h r hrec => exact hkept.retire hR hs.piled hrec
  | visited slot =>
    cases hr : s.engine.records.look slot with
    | none =>
      simp only [State.visit, hr]
      exact hkept
    | some r =>
      exact hkept.unchanged (s.visit_queueUnit slot)
        (State.placed_rewritten_same (r' := r.accrued (s.accrualOf r)) ((s.recordOf_handleOf slot).trans hr) rfl
          (State.side_visit s hr).tables)
        (s.visit_cellTop slot)
  | overdue h =>
    cases hr : s.recordOf h with
    | none =>
      simp only [State.overdueTaken, hr]
      exact hkept
    | some r => exact hkept.overdueTaken hR hs.piled hr
  | linkTurned l up f =>
    have hturned : (s.modPorts fun p => p.modLink l f).QueuesKept R (s.modPorts fun p => p.modLink l f).offer :=
      hkept.unchanged rfl rfl rfl
    exact State.alignLink_induction (P := fun s => s.QueuesKept R s.offer) (fun s slot up h => h.alignHold slot up) hturned
      l up
  | cellWritten n b check =>
    refine hkept.putCell ?_
    cases hc : s.cell n with
    | none => rw [State.cellTop, hc]; rfl
    | some c => exact (State.cellTop_of_cell s hc).symm
  | cellDeleted n c hc hempty =>
    have hstack : c.stack = [] := List.eq_nil_of_length_eq_zero (Nat.eq_zero_of_add_eq_zero_right hempty)
    refine hkept.unchanged rfl rfl (funext fun m => ?_)
    simp only [State.cellTop, State.cell, State.modEngine_engine, Table.look_del]
    split
    · next hm =>
      have htop := State.cellTop_of_cell s hc
      rw [hstack] at htop
      rw [hm]
      exact htop.symm
    · rfl
  | cellDrained n c admissions hc =>
    exact (hkept.putCell (c := { c with state := .draining, admissions := admissions })
      (State.cellTop_of_cell s hc).symm).closeCheck n
  | cellReopened n c hc => exact hkept.putCell (State.cellTop_of_cell s hc).symm
  | expiryRaised =>
    unfold State.raiseExpiry
    split
    · exact hkept
    · exact hkept.unchanged rfl rfl rfl
  | deviceReset => exact s.queuesKept_deviceReset

/-- Every step keeps the queues. -/
theorem step_queuesKept (hs : s.QueuesReady R) (hstep : step s = .next t) : t.QueuesKept R t.offer :=
  step_establishes (P := State.QueuesReady R) (Q := fun s => s.QueuesKept R s.offer) (fun _ _ hq => hq.queuesReady)
    (fun _ n l e _ hu => hu.linkUpdate n l e) (fun _ _ hc => hc.queuesKept hR) (fun _ _ hq => hq.queuesKept) hstep hs

end

/-- Settles O27. The law says that the queues show what the records offer, and every change of a step hands the queues what
becomes of the offers; a queue that changes is put in order, and one that does not keeps its order while no age wraps. -/
theorem stepKeepsQueueLaw : Obligations.StepKeepsQueueLaw := by
  intro s t hlaws hstep
  obtain ⟨hslots, -, -, hmasks, -, hcells, hqueues, -⟩ := hlaws
  have hstacks := State.stacksReady_of_laws hcells hmasks
  have hranked := s.queueLaw_iff.1 hqueues
  refine ⟨t.queueLaw_iff.2 (step_queuesKept ranked_of_pickupLe ⟨hslots, hstacks, hranked, hranked.shows, hranked.related⟩
    hstep), fun horder hyoung => ?_⟩
  have haged : s.QueuesKept aged s.offer := ⟨hranked.shows, horder⟩
  exact (step_queuesKept (fun _ _ _ => id) ⟨hslots, hstacks, haged, haged.ticked_aged hyoung⟩ hstep).related

end Sys2Proof.Machine
end

section
/-! SUPPORT. The Plan Store's requests: their checks in order, and the plan blocks they answer with. -/

namespace Sys2Proof.Machine

/-! ## The block of a plan -/

theorem legBlock_eq (legs : List Leg) : legBlock legs = legs.flatMap fun l => [byteOf l.group, l.mask] := by
  induction legs with
  | nil => rfl
  | cons l legs ih =>
    rw [List.flatMap_cons, ← ih]
    rfl

theorem planBlock_eq {s : State} {plan : Byte} {p : Option Plan} (hp : s.plans.look plan.toNat = p) :
    planBlock s plan.toNat = planBytes plan p := by
  have hplan : byteOf plan.toNat = plan := by simp [byteOf]
  cases p with
  | none => simp only [planBlock, hp, hplan]; rfl
  | some p => simp only [planBlock, planBytes, legBlock_eq, hp, hplan]

/-- A request that answers with a plan's block, the plan standing as `p` says. -/
theorem exec_withPlan {s u w : State} {c : Instr} {f : Frame} {own : State → State × Answer} {plan : Byte} {r : Result}
    (hexec : exec c s = .next (s.serve c (hostService own))) (ht : s.hostTakes c f u)
    (how : own u = withPlan w plan.toNat r) {p : Option Plan} (hp : w.plans.look plan.toNat = p) :
    exec c s = .next (w.respond f ⟨r, [planBytes plan p]⟩) := by
  rw [exec_host hexec ht how, planBlock_eq hp]

/-! ## The checks -/

theorem planFieldsFit_iff (plan count : Byte) (legs : List (Byte × Byte)) :
    planFieldsFit plan count legs = true ↔
      plan.toNat ≤ 254 ∧ 1 ≤ count.toNat ∧ count.toNat ≤ 8 ∧ legs.length = count.toNat ∧
        ∀ p ∈ legs, p.1.toNat ≤ 31 ∧ p.2 ≠ 0 := by
  simp only [planFieldsFit, Bool.and_eq_true, decide_eq_true_eq, beq_iff_eq, List.all_eq_true, bne_iff_ne, and_assoc]

/-- The one number that is out of a plan's range (R117). -/
theorem plan_out_of_range_iff (plan : Byte) : plan.toNat > 254 ↔ plan = 255 := by bv_omega

section
variable {plan : Byte} {s : State}

theorem planClearRequest_of_undefined (hrange : plan ≠ 255) (hp : s.plans.look plan.toNat = none) :
    planClearRequest plan s = withPlan s plan.toNat .badPlan := by
  simp only [planClearRequest, plan_out_of_range_iff, if_neg hrange, hp]

theorem planClearRequest_of_defined (hrange : plan ≠ 255) {p : Plan} (hp : s.plans.look plan.toNat = some p) :
    planClearRequest plan s =
      if 0 < p.refs then withPlan s plan.toNat .planInUse
      else withPlan (s.modPlans fun t => t.del plan.toNat) plan.toNat .ok := by
  simp only [planClearRequest, plan_out_of_range_iff, if_neg hrange, hp]

end

/-- Settles O36. Past its checks each request answers with the block of the plan as it has left it. -/
theorem planRequests : Obligations.PlanRequests := by
  intro s hd plan f u n refs
  have hlast := plan_out_of_range_iff plan
  refine ⟨fun count legs htakes => ?write, fun htakes => ?clear, fun htakes => ?read⟩
  case write =>
    intro out good
    have hfits : (!planFieldsFit plan count legs) = true ↔ ¬ good := by
      rw [Bool.not_eq_true', ← Bool.not_eq_true, planFieldsFit_iff]
    have hpast : good → planWriteRequest plan count legs u = _ := fun hgood => if_neg (not_not.2 hgood ∘ hfits.1)
    refine ⟨fun hbad => ?_, fun hgood hused => ?_, fun hgood hfree => ?_⟩
    · exact exec_host (own := planWriteRequest plan count legs) rfl htakes (if_pos (hfits.2 hbad))
    · exact exec_withPlan rfl htakes ((hpast hgood).trans (if_pos hused)) rfl
    · exact exec_withPlan rfl htakes ((hpast hgood).trans (if_neg hfree.not_gt)) (Table.look_put_self _ _ _)
  case clear =>
    intro out
    split
    · next hbad => exact exec_host (own := planClearRequest plan) rfl htakes (if_pos (hlast.2 hbad))
    next hrange =>
    cases hp : u.plans.look plan.toNat with
    | none => exact exec_withPlan rfl htakes (planClearRequest_of_undefined hrange hp) hp
    | some p =>
      have hown := planClearRequest_of_defined hrange hp
      have hrefs : refs = p.refs := by simp only [refs, n, hp, Option.map_some, Option.getD_some]
      rw [Option.isNone_some, if_neg Bool.false_ne_true, hrefs]
      split
      · next hused => exact exec_withPlan rfl htakes (hown.trans (if_pos hused)) hp
      · next hfree => exact exec_withPlan rfl htakes (hown.trans (if_neg hfree)) ((Table.look_del _ _ _).trans (if_pos rfl))
  case read =>
    split
    · next hbad => exact exec_host (own := planReadRequest plan) rfl htakes (if_pos (hlast.2 hbad))
    · next hgood => exact exec_withPlan (own := planReadRequest plan) rfl htakes (if_neg (hgood ∘ hlast.1)) rfl

end Sys2Proof.Machine
end

section
/-! SUPPORT. The rescue switch of the overdue event. -/

namespace Sys2Proof.Machine

/-! ## The plans' reference counts -/

/-- The count of a plan after a switch, by whether the record left it, joined it, or was on it already (R118). -/
theorem look_plansSwitched (plans : Table Plan) (old : Option Route) (k m : Nat) :
    (plansSwitched plans old k).look m = (plans.look m).map fun q =>
      if old.map (·.plan) = some m ∧ m ≠ k then { q with refs := q.refs - 1 }
      else if m = k ∧ old.map (·.plan) ≠ some k then { q with refs := q.refs + 1 }
      else if m = k then { q with refs := q.refs - 1 + 1 }
      else q := by
  simp only [plansSwitched, Table.look_modify, look_plansLeft, routeOn, beq_iff_eq, Option.map_map]
  by_cases hm : m = k
  · subst hm
    by_cases hold : old.map (·.plan) = some m <;> simp [hold, Plan.up, Function.comp_def]
  · by_cases hold : old.map (·.plan) = some m <;> simp [hold, hm]

theorem State.replanned_eq (s : State) (h : Handle) (r : Record) (k : Nat) (p : Plan) :
    s.replanned h r k p =
      (s.modPlans fun plans => plansSwitched plans r.route k).putRecord h.slot (r.switched k p) := by
  simp only [State.replanned, State.planUp, State.planDown, State.modPlan_eq_modify]
  cases r.route <;> rfl

/-! ## The pickup queues -/

/-- A mask change reads the queues and the stage sequence counter alone. -/
theorem State.maskChange_pickup {s t : State} (hunit : s.queueUnit = t.queueUnit) (h : Handle) (old new : Byte)
    (priority : Nat) (seq : Word) :
    (s.maskChange h old new priority seq).pickup = (t.maskChange h old new priority seq).pickup := by
  have hpickup : s.pickup = t.pickup := congrArg Prod.fst hunit
  have hcounter : s.engine.stageSeq = t.engine.stageSeq := congrArg Prod.snd hunit
  have hqueues : s.queueOf = t.queueOf := by
    funext g
    rw [State.queueOf, State.queueOf, hpickup]
  unfold State.maskChange
  rw [hqueues]
  split
  · simp only [State.modQueues, State.modPickup, hpickup, hcounter]
  · exact hpickup

/-- What a STAGED top offers to the queues (R95). -/
theorem State.offer_of_stagedTop {s : State} {h : Handle} {r : Record} (htop : s.stagedTop h r = true) :
    ∃ spot, r.custody.spot = some spot ∧ r.placed.offer s.cellTop h = some ⟨spot.mask, r.priority, spot.seq⟩ := by
  unfold State.stagedTop at htop
  split at htop
  · next spot lapsed hcustody =>
    refine ⟨spot, by rw [hcustody]; rfl, ?_⟩
    simp only [Record.placed, Placed.offer, hcustody, Custody.place, eq_of_beq htop, if_true]
  · cases htop

/-! ## The overdue event that switches -/

section
variable (s : State) (h : Handle) (r : Record)

theorem State.raised_of_top (htop : s.stagedTop h r = true) :
    s.raised h r = (s.putRecord h.slot { r with priority := 3 }).priorityChange h 3 := if_pos htop

theorem State.raised_of_not_top (htop : ¬ s.stagedTop h r = true) :
    s.raised h r = s.putRecord h.slot { r with priority := 3 } := if_neg htop

/-- What raising the priority writes beside the queues (R103). -/
theorem State.raised_writes :
    s.raised h r = { s.putRecord h.slot { r with priority := 3 } with pickup := (s.raised h r).pickup } := by
  by_cases htop : s.stagedTop h r = true
  · rw [State.raised_of_top s h r htop]
    exact State.priorityChange_eq _ _ _
  · rw [State.raised_of_not_top s h r htop]

/-- What a record offers once its priority is raised. -/
theorem State.raised_offer : ({ r with priority := 3 } : Record).placed.offer (s.raised h r).cellTop h =
    (r.placed.offer s.cellTop h).map fun o => { o with priority := 3 } := by
  rw [State.raised_cellTop, Record.offer_reprioritised]

variable (k : Nat) (p : Plan)

/-- What a rescue writes beside the queues (R118, R127 to R131). -/
theorem State.rescue_writes :
    s.rescue h r k p =
      { s with
        engine := { s.engine with records := s.engine.records.put h.slot (r.switched k p) }
        pickup := (s.rescue h r k p).pickup
        plans := plansSwitched s.plans r.route k
        notices := (s.post .thermal
          (recordNotice .rescueApplied h r r.custody.party r.custody.cell r.presentZone (byteOf k))).notices } := by
  rw [State.rescue_eq, State.replanned_eq]
  split
  · rw [State.maskChange_eq]
    rfl
  · rfl

/-- What the event writes beside the queues when it switches the record (R118, R127 to R131). -/
theorem State.raised_rescue_writes :
    (s.raised h r).rescue h { r with priority := 3 } k p =
      { s with
        engine :=
          { s.engine with records := s.engine.records.put h.slot ({ r with priority := 3 }.switched k p) }
        pickup := ((s.raised h r).rescue h { r with priority := 3 } k p).pickup
        plans := plansSwitched s.plans r.route k
        notices := (s.post .thermal
          (recordNotice .rescueApplied h r r.custody.party r.custody.cell r.presentZone (byteOf k))).notices } := by
  have hrescue := (s.raised h r).rescue_writes h { r with priority := 3 } k p
  generalize ((s.raised h r).rescue h { r with priority := 3 } k p).pickup = queues at hrescue ⊢
  rw [hrescue, State.raised_writes]
  simp only [State.putRecord, State.modEngine, Table.put_put]
  rfl

/-- A STAGED top is handed both queue changes of the event: the priority, then the mask (R103, R104). -/
theorem State.raised_rescue_pickup_of_top {spot : Spot} (htop : s.stagedTop h r = true)
    (hspot : r.custody.spot = some spot) :
    ((s.raised h r).rescue h { r with priority := 3 } k p).pickup =
      ((s.priorityChange h 3).maskChange h spot.mask p.firstMask 3 spot.seq).pickup := by
  obtain ⟨spot', hspot', hoffer⟩ := State.offer_of_stagedTop htop
  obtain rfl : spot' = spot := Option.some.inj (hspot'.symm.trans hspot)
  rw [State.rescue_eq, State.raised_offer, hoffer]
  refine State.maskChange_pickup ?_ h spot'.mask p.firstMask 3 spot'.seq
  rw [State.replanned_queueUnit, State.raised_of_top s h r htop]
  rfl

/-- No queue changes for a record that is no STAGED top. -/
theorem State.raised_rescue_pickup_of_not_top (htop : ¬ s.stagedTop h r = true) :
    ((s.raised h r).rescue h { r with priority := 3 } k p).pickup = s.pickup := by
  have hoffer := htop
  rw [State.stagedTop_eq, Option.not_isSome_iff_eq_none] at hoffer
  rw [State.rescue_eq, State.raised_offer, hoffer]
  refine (congrArg Prod.fst ((s.raised h r).replanned_queueUnit h { r with priority := 3 } k p)).trans ?_
  rw [State.raised_of_not_top s h r htop]
  rfl

end

/-- The switch is decided for a record not yet rescued whose class names a defined plan (R127). -/
theorem State.decideRescue_switch {s : State} (h : Handle) {r : Record} {k : Nat} {p : Plan} (hrescued : r.rescued = false)
    (hplan : (s.dwell.params r.cls).rescue = some k) (hp : s.plans.look k = some p) :
    s.decideRescue h r = s.rescue h r k p := by
  simp only [State.decideRescue, hrescued, hplan, hp, Bool.false_eq_true, if_false]

/-- Settles O48. The event raises the priority and then switches: `State.raised_rescue_writes` says what the two write, and
the queues are given by whether the record is a STAGED top. -/
theorem overdueEventSwitchesPlan : Obligations.OverdueEventSwitchesPlan := by
  intro s i h hmode hh v r k p hrec hplan hrescued hp mask r1 x
  have htaken : exec (.overdueEvent i) s = .next (v.overdueTaken h) :=
    congrArg Host.Outcome.next (State.takeOverdue_eq hmode hh)
  have hdecided := State.decideRescue_switch (s := v.raised h r) (r := { r with priority := 3 }) h hrescued
    (by rw [State.raised_dwell]; exact hplan) (by rw [State.raised_plans]; exact hp)
  have hpickup : ((v.raised h r).rescue h { r with priority := 3 } k p).pickup = x.pickup := by
    by_cases htop : v.stagedTop h r = true
    · obtain ⟨spot, hspot, -⟩ := State.offer_of_stagedTop htop
      simp only [x, hspot, if_pos htop]
      exact v.raised_rescue_pickup_of_top h r k p htop hspot
    · rw [v.raised_rescue_pickup_of_not_top h r k p htop]
      simp only [x, if_neg htop]
      split <;> rfl
  have hafter := State.overdueTaken_eq hrec
  rw [hdecided, State.raised_rescue_writes, hpickup] at hafter
  exact ⟨_, htaken.trans (congrArg Host.Outcome.next hafter), rfl, look_plansSwitched v.plans r.route k⟩

end Sys2Proof.Machine
end

section
/-! SUPPORT. The order of the deadline list, and the expiry of the first entry reached. -/

namespace Sys2Proof.Machine

/-! ## The first entry reached -/

/-- An entry that has been reached and whose expiry has not been raised (R134, R139). -/
def Deadline.Due (clock : Word) (e : Deadline) : Prop := 0 ≤ (clock - e.instant).toInt ∧ e.raised = false

theorem Deadline.due_iff (clock : Word) (e : Deadline) :
    (reached clock e.instant && !e.raised) = true ↔ e.Due clock := by
  simp only [reached, Deadline.Due, BitVec.msb_eq_toInt, Bool.and_eq_true, Bool.not_eq_true', decide_eq_false_iff_not,
    Int.not_lt]

section
variable {clock : Word}

theorem raiseFirst_cons_of_due {d : Deadline} (hd : d.Due clock) (rest : List Deadline) :
    raiseFirst clock (d :: rest) = some (d, { d with raised := true } :: rest) :=
  if_pos ((d.due_iff clock).2 hd)

theorem raiseFirst_cons_of_not_due {d : Deadline} (hd : ¬ d.Due clock) (rest : List Deadline) :
    raiseFirst clock (d :: rest) = (raiseFirst clock rest).map fun p => (p.1, d :: p.2) :=
  if_neg fun h => hd ((d.due_iff clock).1 h)

/-- The entries in front that are not due are passed over. -/
theorem raiseFirst_append {front : List Deadline} (hfront : ∀ e ∈ front, ¬ e.Due clock) (rest : List Deadline) :
    raiseFirst clock (front ++ rest) = (raiseFirst clock rest).map fun p => (p.1, front ++ p.2) := by
  induction front with
  | nil => exact (congrFun Option.map_id (raiseFirst clock rest)).symm
  | cons e front ih =>
    obtain ⟨he, hfront⟩ := List.forall_mem_cons.1 hfront
    rw [List.cons_append, raiseFirst_cons_of_not_due he, ih hfront, Option.map_map]
    rfl

theorem raiseFirst_eq_none {list : List Deadline} (hnone : ∀ e ∈ list, ¬ e.Due clock) : raiseFirst clock list = none := by
  have happend := raiseFirst_append hnone []
  rwa [List.append_nil] at happend

/-- The first entry that is due is raised where it stands (R139). -/
theorem raiseFirst_split {front : List Deadline} (hfront : ∀ e ∈ front, ¬ e.Due clock) {d : Deadline} (hd : d.Due clock)
    (back : List Deadline) :
    raiseFirst clock (front ++ d :: back) = some (d, front ++ { d with raised := true } :: back) := by
  rw [raiseFirst_append hfront, raiseFirst_cons_of_due hd]
  rfl

end

/-! ## The place of a new entry -/

/-- A new entry stands behind a run of entries that are not later, and right in front of a later one if any follows
(R136). -/
theorem insertDeadline_split (d : Deadline) (list : List Deadline) :
    ∃ front back, list = front ++ back ∧ insertDeadline d list = front ++ d :: back ∧
      (∀ e ∈ front, 0 ≤ (d.instant - e.instant).toInt) ∧
      ∀ e, back.head? = some e → (d.instant - e.instant).toInt < 0 := by
  induction list with
  | nil => exact ⟨[], [], rfl, rfl, nofun, nofun⟩
  | cons e list ih =>
    by_cases hlater : (d.instant - e.instant).toInt < 0
    · have hinsert : insertDeadline d (e :: list) = d :: e :: list :=
        if_pos (by rw [BitVec.msb_eq_toInt, decide_eq_true hlater])
      refine ⟨[], e :: list, rfl, hinsert, nofun, fun x hx => ?_⟩
      rwa [← Option.some.inj hx]
    · have hinsert : insertDeadline d (e :: list) = e :: insertDeadline d list :=
        if_neg (by rw [BitVec.msb_eq_toInt, decide_eq_true_iff]; exact hlater)
      obtain ⟨front, back, hlist, hrest, hfront, hback⟩ := ih
      exact ⟨e :: front, back, congrArg (e :: ·) hlist, hinsert.trans (congrArg (e :: ·) hrest),
        List.forall_mem_cons.2 ⟨Int.not_lt.1 hlater, hfront⟩, hback⟩

/-- Settles O44. `raiseFirst_eq_none` and `raiseFirst_split` say which entry is raised, `insertDeadline_split` where a new one
goes. -/
theorem deadlineListAndExpiry : Obligations.DeadlineListAndExpiry := by
  refine ⟨?_, insertDeadline_split⟩
  intro s front back d due
  refine ⟨fun hnone => ?idle, fun hlist hfront hd => ?raised⟩
  case idle =>
    have hraise := raiseFirst_eq_none hnone
    exact congrArg Host.Outcome.next (by rw [State.raiseExpiry, hraise])
  case raised =>
    have hraise := raiseFirst_split hfront hd back
    rw [← hlist] at hraise
    exact congrArg Host.Outcome.next (by rw [State.raiseExpiry, hraise]; rfl)

end Sys2Proof.Machine
end

section
/-! SUPPORT. An expiry taken: discarded, or the booking lapse written out block by block. -/

namespace Sys2Proof.Machine

/-- The expiry event meets a booking or a claim that still waits for its instant (R140). -/
def Expiry.Meets (x : Expiry) (c : Custody) : Prop :=
  (∃ n k receiver ov, c = .booked n k receiver ov (.armed x.instant) ∧ x.kind = .booking) ∨
    ∃ spot n, c = .claimed spot n (.armed x.instant) ∧ x.kind = .claim

/-- No expiry is taken in FLUSHING, nor at an index with none (R151, log 21). -/
theorem State.takeExpiry_idle {s : State} {i : Nat} (h : s.engine.mode = .flushing ∨ s.engine.expiries[i]? = none) :
    s.takeExpiry i = s := by
  unfold State.takeExpiry
  split
  · rfl
  · next hmode => rw [h.resolve_left hmode]

/-- An expiry that meets nothing is discarded (R140). -/
theorem State.lapse_of_not_meets {s : State} {x : Expiry} (hnot : ∀ r, s.recordOf x.handle = some r → ¬ x.Meets r.custody) :
    s.lapse x = s := by
  unfold State.lapse
  split
  · rfl
  next r hrec =>
  split
  · next n k receiver ov instant hcustody hkind =>
    refine if_neg fun hinstant => hnot r hrec (.inl ⟨n, k, receiver, ov, ?_, hkind⟩)
    rw [hcustody, hinstant]
  · next spot n instant hcustody hkind =>
    refine if_neg fun hinstant => hnot r hrec (.inr ⟨spot, n, ?_, hkind⟩)
    rw [hcustody, hinstant]
  · rfl

/-- An expiry that meets a booking of its instant makes the booking lapse (R140). -/
theorem State.lapse_booking {s : State} {x : Expiry} {r : Record} {n k : Nat} {receiver : Option Nat} {ov : Option Byte}
    (hrec : s.recordOf x.handle = some r) (hkind : x.kind = .booking)
    (hcustody : r.custody = .booked n k receiver ov (.armed x.instant)) : s.lapse x = s.bookingLapse x.handle r n k := by
  simp only [State.lapse, hrec, hcustody, hkind, if_true]

/-- Settles O45. The expiry meets nothing and is discarded, or it meets the booking, whose end `State.endBooking_eq` writes
out. -/
theorem expiryLapsesBooking : Obligations.ExpiryLapsesBooking := by
  intro s i
  refine ⟨fun hidle => congrArg Host.Outcome.next (State.takeExpiry_idle hidle), ?_⟩
  intro x hmode hx v h meets
  have htaken : exec (.expiryTaken i) s = .next (v.lapse x) := congrArg Host.Outcome.next (State.takeExpiry_eq hmode hx)
  refine ⟨fun hnot => ?discarded, ?lapses⟩
  case discarded => rw [htaken, State.lapse_of_not_meets hnot]
  case lapses =>
    intro r n k receiver ov c hrec hkind hcustody hcell w
    rw [htaken, State.lapse_booking hrec hkind hcustody, State.bookingLapse, State.cellStateCode_endBooking hcell,
      State.endBooking_eq hcell]
    rfl

end Sys2Proof.Machine
end

section
/-! SUPPORT. Steady changes: they leave the ports, the Dwell Unit and the device mode, and keep the tables in canonical form
and the notice queues within their room. -/

namespace Sys2Proof.Machine

/-- The cells, the roster, the plans and the rules are in canonical form. -/
def State.TablesWf (s : State) : Prop :=
  s.engine.cells.wf = true ∧ s.engine.roster.wf = true ∧ s.plans.wf = true ∧ s.rules.wf = true

/-- No notice queue holds more than 64 notices (R212). -/
def NoticeUnit.WithinRoom (u : NoticeUnit) : Prop := ∀ q, (u.queue q).items.length ≤ Config.noticeRoom

/-- What the laws of the mode and of the bounds ask of a change that is not about the ports, the Dwell Unit or the mode.
Unless the change opens records, an empty table stays empty. -/
structure State.Steady (opens : Prop) (s t : State) : Prop where
  ports : t.ports = s.ports
  dwell : t.dwell = s.dwell
  mode : t.engine.mode = s.engine.mode
  flush : t.engine.flush = s.engine.flush
  tables : s.TablesWf → t.TablesWf
  notices : s.notices.WithinRoom → t.notices.WithinRoom
  empty : ¬ opens → s.engine.records = [] → t.engine.records = []

namespace State.Steady

variable {s t u : State} {opens : Prop}

theorem refl (s : State) : s.Steady opens s := ⟨rfl, rfl, rfl, rfl, id, id, fun _ => id⟩

theorem trans (h : s.Steady opens t) (k : t.Steady opens u) : s.Steady opens u :=
  ⟨k.ports.trans h.ports, k.dwell.trans h.dwell, k.mode.trans h.mode, k.flush.trans h.flush, k.tables ∘ h.tables,
    k.notices ∘ h.notices, fun hopens => k.empty hopens ∘ h.empty hopens⟩

/-- A table that holds a live record is not empty, so a change of it opens none into an empty table. -/
theorem of_live (h : s.Steady True t) (hlive : s.engine.records ≠ []) : s.Steady opens t :=
  ⟨h.ports, h.dwell, h.mode, h.flush, h.tables, h.notices, fun _ hempty => absurd hempty hlive⟩

theorem ite {c : Prop} [Decidable c] (h : s.Steady opens t) : s.Steady opens (if c then t else s) := by
  split
  · exact h
  · exact .refl s

end State.Steady

/-! ## Tables in canonical form -/

theorem Table.wf_modify {α : Type} {t : Table α} (h : t.wf = true) (n : Nat) (f : α → α) : (t.modify n f).wf = true := by
  unfold Table.modify
  split
  · exact Table.wf_put _ _ _ h
  · exact h

theorem wf_plansJoined {plans : Table Plan} (h : plans.wf = true) (route : Option Route) :
    (plansJoined plans route).wf = true := by
  cases route with
  | none => exact h
  | some route => exact Table.wf_modify h _ _

theorem wf_plansLeft {plans : Table Plan} (h : plans.wf = true) (route : Option Route) :
    (plansLeft plans route).wf = true := by
  cases route with
  | none => exact h
  | some route => exact Table.wf_modify h _ _

theorem wf_rosterFreed {roster : Table Robot} (h : roster.wf = true) (party : Option Nat) :
    (rosterFreed roster party).wf = true := by
  cases party with
  | none => exact h
  | some n => exact Table.wf_modify h _ _

theorem wf_cellsLeft {cells : Table Cell} (h : cells.wf = true) (x : Handle) (c : Custody) :
    (cellsLeft cells x c).wf = true := by
  cases c with
  | carried => exact h
  | booked | staged | claimed => exact Table.wf_modify h _ _

/-! ## Notice queues within their room -/

theorem NoticeQueue.length_post {q : NoticeQueue} (h : q.items.length ≤ Config.noticeRoom) (n : Notice) :
    (q.post n).items.length ≤ Config.noticeRoom := by
  unfold NoticeQueue.post
  split
  · next hroom => simpa using hroom
  · exact h

theorem NoticeUnit.queue_modQueue (u : NoticeUnit) (q q' : QueueId) (f : NoticeQueue → NoticeQueue) :
    (u.modQueue q f).queue q' = if q' = q then f (u.queue q') else u.queue q' := by
  cases q <;> cases q' <;> rfl

/-- A change of one queue that keeps it within its room. -/
theorem NoticeUnit.WithinRoom.modQueue {u : NoticeUnit} (h : u.WithinRoom) (q : QueueId) {f : NoticeQueue → NoticeQueue}
    (hf : (f (u.queue q)).items.length ≤ Config.noticeRoom) : (u.modQueue q f).WithinRoom := by
  intro q'
  rw [NoticeUnit.queue_modQueue]
  split
  · next hq => rw [hq]; exact hf
  · exact h q'

/-- A change of the notice unit that leaves the queues. -/
theorem NoticeUnit.WithinRoom.of_queue {u v : NoticeUnit} (h : u.WithinRoom) (hqueue : ∀ q, v.queue q = u.queue q) :
    v.WithinRoom := fun q => hqueue q ▸ h q

theorem NoticeUnit.queue_countSlot (u : NoticeUnit) (e : EventKind) (zone amount slot : Nat) (q : QueueId) :
    (u.countSlot e zone amount slot).queue q = u.queue q := by
  unfold NoticeUnit.countSlot
  dsimp only
  split
  · cases q <;> rfl
  · rfl

/-! ## Changes of one block -/

section
variable (s : State) {opens : Prop}

theorem State.steady_modNotices (f : NoticeUnit → NoticeUnit) (hf : s.notices.WithinRoom → (f s.notices).WithinRoom) :
    s.Steady opens (s.modNotices f) := ⟨rfl, rfl, rfl, rfl, id, hf, fun _ => id⟩

theorem State.steady_post (q : QueueId) (n : Notice) : s.Steady opens (s.post q n) :=
  s.steady_modNotices _ fun h => h.modQueue q (NoticeQueue.length_post (h q) _)

theorem State.steady_countEvent (e : EventKind) (zone amount : Nat) : s.Steady opens (s.countEvent e zone amount) :=
  s.steady_modNotices _ fun h => h.of_queue fun q => by
    simp only [List.foldl_cons, List.foldl_nil, NoticeUnit.queue_countSlot]

theorem State.steady_linkEdge : s.Steady opens s.linkEdge :=
  s.steady_modNotices _ fun h => h.of_queue fun q => by cases q <;> rfl

theorem State.steady_pickup (pickup : Table (List PickupEntry)) : s.Steady opens { s with pickup := pickup } :=
  ⟨rfl, rfl, rfl, rfl, id, id, fun _ => id⟩

theorem State.steady_modTimer (f : DeadlineTimer → DeadlineTimer) : s.Steady opens (s.modTimer f) :=
  ⟨rfl, rfl, rfl, rfl, id, id, fun _ => id⟩

theorem State.steady_disarm (h : Handle) : s.Steady opens (s.disarm h) := s.steady_modTimer _

/-- A change of the Custody Engine that leaves mode and FLUSH and keeps its two tables in canonical form. -/
theorem State.steady_modEngine (f : Engine → Engine) (hmode : (f s.engine).mode = s.engine.mode)
    (hflush : (f s.engine).flush = s.engine.flush) (hcells : s.engine.cells.wf = true → (f s.engine).cells.wf = true)
    (hroster : s.engine.roster.wf = true → (f s.engine).roster.wf = true)
    (hempty : ¬ opens → s.engine.records = [] → (f s.engine).records = []) : s.Steady opens (s.modEngine f) :=
  ⟨rfl, rfl, hmode, hflush, fun ⟨hc, hr, hp, hu⟩ => ⟨hcells hc, hroster hr, hp, hu⟩, id, hempty⟩

theorem State.steady_modCells (f : Table Cell → Table Cell)
    (hf : s.engine.cells.wf = true → (f s.engine.cells).wf = true) :
    s.Steady opens (s.modEngine fun e => { e with cells := f e.cells }) :=
  s.steady_modEngine _ rfl rfl hf id fun _ => id

theorem State.steady_modRoster (f : Table Robot → Table Robot)
    (hf : s.engine.roster.wf = true → (f s.engine.roster).wf = true) :
    s.Steady opens (s.modEngine fun e => { e with roster := f e.roster }) :=
  s.steady_modEngine _ rfl rfl id hf fun _ => id

theorem State.steady_modPlans (f : Table Plan → Table Plan) (hf : s.plans.wf = true → (f s.plans).wf = true) :
    s.Steady opens (s.modPlans f) :=
  ⟨rfl, rfl, rfl, rfl, fun ⟨hc, hr, hp, hu⟩ => ⟨hc, hr, hf hp, hu⟩, id, fun _ => id⟩

theorem State.steady_putRule (n : Nat) (r : Rule) : s.Steady opens (s.putRule n r) :=
  ⟨rfl, rfl, rfl, rfl, fun ⟨hc, hr, hp, hu⟩ => ⟨hc, hr, hp, Table.wf_putD _ _ _ _ hu⟩, id, fun _ => id⟩

theorem State.steady_putCell (n : Nat) (c : Cell) : s.Steady opens (s.putCell n c) :=
  s.steady_modCells (·.put n c) (Table.wf_put _ _ _)

theorem State.steady_modCell (n : Nat) (f : Cell → Cell) : s.Steady opens (s.modCell n f) := by
  rw [State.modCell_eq_modify]
  exact s.steady_modCells (·.modify n f) fun h => Table.wf_modify h _ _

theorem State.steady_putRobot (n : Nat) (e : Robot) : s.Steady opens (s.putRobot n e) :=
  s.steady_modRoster (·.put n e) (Table.wf_put _ _ _)

theorem State.steady_modRobot (n : Nat) (f : Robot → Robot) : s.Steady opens (s.modRobot n f) := by
  rw [State.modRobot_eq_modify]
  exact s.steady_modRoster (·.modify n f) fun h => Table.wf_modify h _ _

theorem State.steady_modPlan (n : Nat) (f : Plan → Plan) : s.Steady opens (s.modPlan n f) := by
  rw [State.modPlan_eq_modify]
  exact s.steady_modPlans _ fun h => Table.wf_modify h _ _

/-- A record written may be the table's first. -/
theorem State.steady_putRecord (slot : Nat) (r : Record) : s.Steady True (s.putRecord slot r) :=
  s.steady_modEngine _ rfl rfl id id fun h => absurd trivial h

/-! ## Cells, queues and rules -/

theorem State.steady_closeCheck (n : Nat) : s.Steady opens (s.closeCheck n) := by
  unfold State.closeCheck
  split
  · exact .refl s
  next c _ => exact .ite ((s.steady_putCell n { c with state := .closed }).trans (State.steady_countEvent _ _ _ _))

theorem State.steady_unstack (n : Nat) (h : Handle) : s.Steady opens (s.unstack n h) := by
  rw [State.unstack_eq]
  exact (s.steady_modCells (·.modify n (·.without h)) fun hc => Table.wf_modify hc _ _).trans (State.steady_pickup _ _)

theorem State.steady_maskChange (h : Handle) (old new : Byte) (priority : Nat) (seq : Word) :
    s.Steady opens (s.maskChange h old new priority seq) := .ite (s.steady_pickup _)

theorem State.steady_takeRule (m : Option (Nat × Rule)) (notice : Byte → Notice) (denied : Bool) :
    s.Steady opens (s.takeRule m notice denied) := by
  unfold State.takeRule
  split
  · exact .refl s
  · dsimp only
    split
    · exact (s.steady_putRule _ _).trans (State.steady_post _ _ _)
    · exact s.steady_putRule _ _

/-! ## Holds and links -/

theorem State.steady_alignHold (slot : Nat) (up : Bool) : s.Steady opens (s.alignHold slot up) := by
  have hrewritten : ∀ {r} r' list, s.engine.records.look slot = some r →
      s.Steady opens (s.rewritten slot r' list s.plans) := fun r' list hlook =>
    State.Steady.of_live ((s.steady_putRecord slot r').trans (State.steady_modTimer _ fun t => { t with list := list }))
      fun hempty => by rw [hempty] at hlook; cases hlook
  rcases s.alignHold_cases slot up with ⟨heq, -⟩ | ⟨-, r, saved, hlook, -, heq⟩ | ⟨-, r, d, hlook, -, heq⟩
  · rw [heq]; exact .refl s
  · rw [heq]; exact hrewritten _ _ hlook
  · rw [heq]; exact hrewritten _ _ hlook

theorem State.steady_alignLink (l : Link) (up : Bool) : s.Steady opens (s.alignLink l up) :=
  State.alignLink_induction (P := fun t => s.Steady opens t) (fun t slot up h => h.trans (t.steady_alignHold slot up))
    (.refl s) l up

theorem State.steady_linkUpdate (n : Nat) (l : Link) (e : Robot) : s.Steady opens (s.linkUpdate n l e) := by
  unfold State.linkUpdate
  dsimp only
  split
  · exact (s.steady_putRobot n _).trans (State.steady_alignHold _ _ _)
  · exact s.steady_putRobot n _

/-! ## The operations on a record -/

variable (h : Handle) (r : Record)

theorem State.steady_openRecord (n slot : Nat) : s.Steady True (s.openRecord n slot r) := by
  rw [State.openRecord_eq]
  refine ⟨rfl, rfl, rfl, rfl, fun ⟨hc, hr, hp, hu⟩ => ⟨hc, Table.wf_modify hr _ _, wf_plansJoined hp _, hu⟩,
    fun hroom => ?_, fun hopens => absurd trivial hopens⟩
  dsimp only
  split
  · exact hroom.of_queue fun q => by cases q <;> rfl
  · exact hroom

theorem State.steady_bookRecord (n : Nat) (l : Link) (k : Nat) (receiver : Option Nat) (m : Option (Nat × Rule)) :
    s.Steady True (s.bookRecord n l h r k receiver m) := by
  simp only [State.bookRecord, State.startTiming_eq]
  exact (((s.steady_modCell k _).trans (State.steady_modTimer _ _)).trans (State.steady_putRecord _ _ _)).trans
    (State.steady_closeCheck _ _)

theorem State.steady_endBooking (carrier k : Nat) (lapsed : Option Nat) :
    s.Steady True (s.endBooking h r carrier k lapsed) :=
  (((s.steady_disarm h).trans (State.steady_modCell _ k _)).trans (State.steady_putRecord _ _ _)).trans
    (State.steady_closeCheck _ _)

theorem State.steady_stageRecord (carrier k : Nat) (receiver : Option Nat) (mask : Byte) :
    s.Steady True (s.stageRecord h r carrier k receiver mask) := by
  obtain ⟨pickup, hburied⟩ := s.buried_eq (s.cellTop k)
  rw [State.stageRecord_eq, hburied]
  refine State.Steady.trans ?_ (State.steady_countEvent _ _ _ _)
  exact ⟨rfl, rfl, rfl, rfl, fun ⟨hc, hr, hp, hu⟩ => ⟨Table.wf_modify hc _ _, Table.wf_modify hr _ _, hp, hu⟩, id,
    fun hopens => absurd trivial hopens⟩

theorem State.steady_grant (n : Nat) (l : Link) (spot : Spot) : s.Steady True (s.grant n l h r spot) := by
  simp only [State.grant, State.startTiming_eq]
  exact (((s.steady_pickup _).trans (State.steady_modRobot (s.leave h) n _)).trans (State.steady_modTimer _ _)).trans
    (State.steady_putRecord _ _ _)

theorem State.steady_endClaim (spot : Spot) (claimant : Nat) (lapsed : Option Nat) :
    s.Steady True (s.endClaim h r spot claimant lapsed) :=
  (((s.steady_disarm h).trans (State.steady_modRobot _ claimant _)).trans (State.steady_putRecord _ _ _)).trans
    (State.steady_pickup _ _)

theorem State.steady_bookingLapse (carrier k : Nat) : s.Steady True (s.bookingLapse h r carrier k) :=
  ((s.steady_endBooking h r carrier k (some carrier)).trans (State.steady_post _ _ _)).trans
    (State.steady_countEvent _ _ _ _)

theorem State.steady_claimLapse (spot : Spot) (claimant : Nat) : s.Steady True (s.claimLapse h r spot claimant) := by
  have hlapsed := (((s.steady_endClaim h r spot claimant (some claimant)).trans
    (State.steady_modRobot _ claimant fun x => { x with misses := missesAfter (s.robot claimant) })).trans
    (State.steady_post _ .timing (recordNotice .claimLapsed h r (some claimant) (some spot.cell) (s.cellZone spot.cell)
      (byteOf (missesAfter (s.robot claimant)))))).trans (State.steady_countEvent _ .claimLapsed r.presentZone 0)
  simp only [State.claimLapse]
  split
  · exact (hlapsed.trans (State.steady_modRobot _ _ _)).trans (State.steady_post _ _ _)
  · exact hlapsed

theorem State.steady_takeupRecord (spot : Spot) (claimant : Nat) : s.Steady True (s.takeupRecord h r spot claimant) :=
  (((((s.steady_disarm h).trans (State.steady_modRobot _ claimant _)).trans (State.steady_putRecord _ _ _)).trans
    (State.steady_unstack _ _ _)).trans (State.steady_countEvent _ _ _ _)).trans (State.steady_closeCheck _ _)

theorem State.steady_retire : s.Steady opens (s.retire h r) := by
  have hretired : ∀ pickup, s.Steady opens (s.retired h r pickup) := fun pickup =>
    ⟨rfl, rfl, rfl, rfl,
      fun ⟨hc, hr, hp, hu⟩ => ⟨wf_cellsLeft hc _ _, wf_rosterFreed hr _, wf_plansLeft hp _, hu⟩, id, fun _ hempty => by
        simp only [State.retired, hempty, Table.del, List.filter_nil]⟩
  rw [State.retire_eq]
  dsimp only
  split
  · exact (hretired _).trans (State.steady_closeCheck _ _)
  · exact hretired _

theorem State.steady_visit (slot : Nat) : s.Steady True (s.visit slot) := by
  unfold State.visit
  split
  · exact .refl s
  next r _ =>
  have hcounted : ∀ a, s.Steady True (if a > 0 then
      (s.putRecord slot (r.accrued a)).countEvent .accrual r.presentZone a else s.putRecord slot (r.accrued a)) :=
    fun a => (s.steady_putRecord slot _).trans (.ite (State.steady_countEvent _ _ _ _))
  have hwarned : ∀ a, s.Steady True _ := fun a => (hcounted a).trans
    (.ite (c := ((r.accrued a).warned && !r.warned) = true)
      (State.steady_post _ .thermal (dwellNotice .dwellWarn (s.handleOf slot) r)))
  dsimp only
  split
  · exact ((hwarned _).trans (State.steady_post _ _ _)).trans
      (State.steady_modEngine _ (fun e => { e with overdues := e.overdues ++ [s.handleOf slot] }) rfl rfl id id fun _ => id)
  · exact hwarned _

theorem State.steady_replanned (k : Nat) (p : Plan) : s.Steady True (s.replanned h r k p) := by
  have hleft : s.Steady True (match r.route with
      | some route => s.planDown route.plan
      | none => s) := by
    split
    · exact s.steady_modPlan _ _
    · exact .refl s
  exact (hleft.trans (State.steady_modPlan _ k _)).trans (State.steady_putRecord _ _ _)

theorem State.steady_rescue (k : Nat) (p : Plan) : s.Steady True (s.rescue h r k p) := by
  have hreplanned := s.steady_replanned h r k p
  rw [State.rescue_eq]
  refine State.Steady.trans ?_ (State.steady_post _ _ _)
  split
  · exact hreplanned.trans (State.steady_maskChange _ _ _ _ _ _)
  · exact hreplanned

theorem State.steady_decideRescue : s.Steady True (s.decideRescue h r) := by
  unfold State.decideRescue
  split
  · exact .refl s
  split
  · exact .refl s
  split
  · exact s.steady_post _ _
  · exact s.steady_rescue h r _ _

theorem State.steady_raised : s.Steady True (s.raised h r) :=
  (s.steady_putRecord _ _).trans (.ite (State.steady_pickup _ _))

end

/-- A record that a handle names is in the table. -/
theorem State.records_ne_nil {s : State} {h : Handle} {r : Record} (hrec : s.recordOf h = some r) :
    s.engine.records ≠ [] := fun hempty => by
  obtain ⟨hlook, -⟩ := State.look_of_recordOf hrec
  rw [hempty] at hlook
  cases hlook

/-- An overdue event that finds no live record is discarded (R172). -/
theorem State.steady_overdueTaken {opens : Prop} (s : State) (h : Handle) : s.Steady opens (s.overdueTaken h) := by
  cases hrec : s.recordOf h with
  | none => simp only [State.overdueTaken, hrec]; exact .refl s
  | some r =>
    rw [State.overdueTaken_eq hrec]
    exact (((s.steady_raised h r).trans (State.steady_decideRescue _ _ _)).trans
      (State.steady_countEvent _ _ _ _)).of_live (State.records_ne_nil hrec)

end Sys2Proof.Machine
end

section
/-! SUPPORT. The requests whose own checks and effects are steady, and the expiry and overdue events. -/

namespace Sys2Proof.Machine

variable {s : State} {n : Nat} {opens : Prop}

/-! ## Robot requests -/

/-- A request that passes the party test does what follows; one that fails it posts a notice at most. -/
theorem withParty_steady {kind : Byte} {need : RecordState} {late : Bool} {raw : Half}
    {go : Handle → Record → State × Answer} (hgo : ∀ h r, s.Steady True (go h r).1) :
    s.Steady True (withParty kind need late raw n s go).1 := by
  unfold withParty
  split
  · exact .refl s
  split
  · exact hgo _ _
  · exact s.steady_post _ _
  · exact .refl s

theorem declareRequest_steady (bin : Word) (cls zone plan wave priority : Byte) :
    s.Steady True (declareRequest bin cls zone plan wave priority n s).1 := by
  rw [declareRequest_eq]
  split
  · exact .refl s
  split
  · exact .refl s
  split
  · exact .refl s
  split
  · exact .refl s
  split
  · exact (s.steady_takeRule _ _ _).trans (State.steady_openRecord _ _ _ _)
  · exact .refl s

theorem bookRequest_steady (l : Link) (handle cell receiver : Half) :
    s.Steady True (bookRequest l handle cell receiver n s).1 := by
  unfold bookRequest
  split
  · exact .refl s
  refine withParty_steady fun h r => ?_
  split
  · exact .refl s
  split
  · exact .refl s
  split
  · exact .refl s
  split
  · exact .refl s
  split
  · exact .refl s
  dsimp only
  split
  · exact s.steady_takeRule _ _ _
  · exact (s.steady_takeRule _ _ _).trans (State.steady_bookRecord _ _ _ _ _ _ _ _)

theorem unbookRequest_steady (handle : Half) : s.Steady True (unbookRequest handle n s).1 :=
  withParty_steady fun h r => by
    split
    · exact s.steady_endBooking _ _ _ _ _
    · exact .refl s

theorem setdownRequest_steady (handle : Half) : s.Steady True (setdownRequest handle n s).1 :=
  withParty_steady fun h r => by
    split
    · split
      · exact .refl s
      · exact s.steady_stageRecord _ _ _ _ _ _
    · exact .refl s

theorem claimRequest_steady (l : Link) (handle : Half) : s.Steady True (claimRequest l handle n s).1 := by
  unfold claimRequest
  split
  · exact .refl s
  split
  · exact .refl s
  next h r _ =>
  split
  · split
    · exact .refl s
    split
    · unfold State.refuseCustody
      split
      · exact .refl s
      · exact (s.steady_countEvent _ _ _).trans (.ite (State.steady_post _ _ _))
    · exact s.steady_grant _ _ _ _ _
  · exact .refl s

theorem seekRequest_steady (l : Link) : s.Steady True (seekRequest l n s).1 := by
  unfold seekRequest
  split
  · exact .refl s
  split
  · exact .refl s
  · exact s.steady_grant _ _ _ _ _

theorem yieldRequest_steady (handle : Half) : s.Steady True (yieldRequest handle n s).1 :=
  withParty_steady fun h r => by
    split
    · exact s.steady_endClaim _ _ _ _ _
    · exact .refl s

theorem takeupRequest_steady (handle : Half) : s.Steady True (takeupRequest handle n s).1 :=
  withParty_steady fun h r => by
    split
    · exact s.steady_takeupRecord _ _ _ _
    · exact .refl s

theorem finishRequest_steady (handle : Half) (outcome : Byte) : s.Steady True (finishRequest handle outcome n s).1 :=
  withParty_steady fun h r => by
    split
    · exact .refl s
    · exact (s.steady_retire h r).trans (.ite (State.steady_post _ _ _))

theorem queryBinRequest_steady (bin : Word) : s.Steady opens (queryBinRequest bin n s).1 := by
  unfold queryBinRequest
  split <;> exact .refl s

theorem queryCellRequest_steady (cell : Half) : s.Steady opens (queryCellRequest cell n s).1 := by
  unfold queryCellRequest
  split
  · exact .refl s
  · split <;> exact .refl s

/-! ## Cells, robots and plans -/

theorem cellWriteRequest_steady (cell : Half) (b : CellBytes) : s.Steady opens (cellWriteRequest cell b s).1 := by
  unfold cellWriteRequest
  dsimp only
  split
  · exact .refl s
  split
  · exact .refl s
  split
  · exact .refl s
  split
  · exact .refl s
  · exact s.steady_putCell _ _

theorem cellDeleteRequest_steady (cell : Half) : s.Steady opens (cellDeleteRequest cell s).1 := by
  unfold cellDeleteRequest
  dsimp only
  split
  · exact .refl s
  split
  · exact .refl s
  split
  · exact .refl s
  · exact s.steady_modCells (·.del cell.toNat) (Table.wf_del _ _)

theorem cellDrainRequest_steady (cell : Half) (admissions : Byte) :
    s.Steady opens (cellDrainRequest cell admissions s).1 := by
  unfold cellDrainRequest
  dsimp only
  split
  · exact .refl s
  split
  · exact .refl s
  split
  · exact .refl s
  · exact (s.steady_putCell _ _).trans (State.steady_closeCheck _ _)

theorem cellReopenRequest_steady (cell : Half) : s.Steady opens (cellReopenRequest cell s).1 := by
  unfold cellReopenRequest
  dsimp only
  split
  · exact .refl s
  split
  · exact .refl s
  split
  · exact .refl s
  · exact s.steady_putCell _ _

theorem robotEnrolRequest_steady (robot : Half) (group : Byte) : s.Steady opens (robotEnrolRequest robot group s).1 := by
  unfold robotEnrolRequest
  dsimp only
  split
  · exact .refl s
  split
  · exact s.steady_putRobot _ _
  · exact s.steady_putRobot _ _

theorem robotWithdrawRequest_steady (robot : Half) : s.Steady opens (robotWithdrawRequest robot s).1 := by
  unfold robotWithdrawRequest
  dsimp only
  split
  · exact .refl s
  split
  · exact .refl s
  split
  · exact .refl s
  · exact s.steady_modRoster (·.del robot.toNat) (Table.wf_del _ _)

theorem robotSuspendRequest_steady (robot : Half) : s.Steady opens (robotSuspendRequest robot s).1 := by
  unfold robotSuspendRequest
  dsimp only
  split
  · exact .refl s
  split
  · exact .refl s
  · exact s.steady_putRobot _ _

theorem robotResumeRequest_steady (robot : Half) : s.Steady opens (robotResumeRequest robot s).1 := by
  unfold robotResumeRequest
  dsimp only
  split
  · exact .refl s
  split
  · exact .refl s
  · exact s.steady_putRobot _ _

theorem robotReadRequest_steady (robot : Half) : s.Steady opens (robotReadRequest robot s).1 := by
  unfold robotReadRequest
  split <;> exact .refl s

theorem missLimitRequest_steady (limit : Byte) : s.Steady opens (missLimitRequest limit s).1 := by
  unfold missLimitRequest
  split
  · exact .refl s
  · exact s.steady_modEngine (fun e => { e with missLimit := limit.toNat }) rfl rfl id id fun _ => id

theorem planWriteRequest_steady (plan legCount : Byte) (legs : List (Byte × Byte)) :
    s.Steady opens (planWriteRequest plan legCount legs s).1 := by
  unfold planWriteRequest
  dsimp only
  split
  · exact .refl s
  split
  · exact .refl s
  · exact s.steady_modPlans (·.put plan.toNat _) (Table.wf_put _ _ _)

theorem planClearRequest_steady (plan : Byte) : s.Steady opens (planClearRequest plan s).1 := by
  unfold planClearRequest
  dsimp only
  split
  · exact .refl s
  split
  · exact .refl s
  split
  · exact .refl s
  · exact s.steady_modPlans (·.del plan.toNat) (Table.wf_del _ _)

theorem planReadRequest_steady (plan : Byte) : s.Steady opens (planReadRequest plan s).1 := by
  unfold planReadRequest
  split <;> exact .refl s

/-! ## Classes, zones and links read, and rules -/

theorem classReadRequest_steady (cls : Byte) : s.Steady opens (classReadRequest cls s).1 := by
  unfold classReadRequest
  split <;> exact .refl s

theorem zoneReadRequest_steady (zone : Byte) : s.Steady opens (zoneReadRequest zone s).1 := by
  unfold zoneReadRequest
  split <;> exact .refl s

theorem linkReadRequest_steady (selector : Byte) : s.Steady opens (linkReadRequest selector s).1 := by
  unfold linkReadRequest
  split <;> exact .refl s

theorem ruleWriteRequest_steady (b : RuleBytes) : s.Steady opens (ruleWriteRequest b s).1 := by
  unfold ruleWriteRequest
  split
  · exact .refl s
  dsimp only
  split
  · exact s.steady_putRule _ _
  · exact .refl s

theorem ruleReadRequest_steady (index : Byte) : s.Steady opens (ruleReadRequest index s).1 := by
  unfold ruleReadRequest
  split <;> exact .refl s

theorem State.steady_foldl {α : Type} (f : State → α → State) (hf : ∀ (s : State) (a : α), s.Steady opens (f s a))
    (l : List α) (s : State) : s.Steady opens (l.foldl f s) := by
  induction l generalizing s with
  | nil => exact .refl s
  | cons a l ih => exact (hf s a).trans (ih _)

theorem ruleHitsRequest_steady (clear : Quad) : s.Steady opens (ruleHitsRequest clear s).1 :=
  State.steady_foldl _ (fun _ _ => .ite (State.steady_putRule _ _ _)) _ s

/-! ## Record access, notices, alerts and counters -/

theorem lookupRequest_steady (selector : Byte) (value : Word) : s.Steady opens (lookupRequest selector value s).1 := by
  unfold lookupRequest
  dsimp only
  split <;> exact .refl s

theorem scanRequest_steady (start : Half) (count : Byte) : s.Steady opens (scanRequest start count s).1 := by
  unfold scanRequest
  split <;> exact .refl s

theorem retireRequest_steady (handle : Half) : s.Steady opens (retireRequest handle s).1 := by
  unfold retireRequest
  split
  · exact .refl s
  · exact s.steady_retire _ _

/-- A request that changes the Notice Unit alone and is answered. -/
theorem State.steady_notices (f : NoticeUnit → NoticeUnit) (a : Answer)
    (hf : s.notices.WithinRoom → (f s.notices).WithinRoom) : s.Steady opens (s.modNotices f, a).1 :=
  s.steady_modNotices f hf

theorem noticeReadRequest_steady (queue most : Byte) : s.Steady opens (noticeReadRequest queue most s).1 := by
  unfold noticeReadRequest
  split
  · exact .refl s
  next q _ =>
  split
  · exact .refl s
  refine State.steady_notices _ _ fun hroom => hroom.modQueue q ?_
  exact (List.drop_sublist _ _).length_le.trans (hroom q)

theorem alertMaskRequest_steady (enabled : Byte) : s.Steady opens (alertMaskRequest enabled s).1 := by
  unfold alertMaskRequest
  dsimp only
  split
  · exact .refl s
  · exact State.steady_notices _ _ fun hroom => hroom.of_queue fun q => by cases q <;> rfl

/-- Clearing a queue's DROPPED flag leaves its notices. -/
theorem NoticeUnit.WithinRoom.clearAlerts {u : NoticeUnit} (h : u.WithinRoom) (b : Byte) : (u.clearAlerts b).WithinRoom := by
  have hclear : ∀ (c : Bool) (q : NoticeQueue), q.items.length ≤ Config.noticeRoom →
      (if c then { q with dropped := false } else q).items.length ≤ Config.noticeRoom := fun c q hq => by
    cases c <;> exact hq
  intro q
  cases q with
  | custody => exact hclear _ _ (h .custody)
  | timing => exact hclear _ _ (h .timing)
  | thermal => exact hclear _ _ (h .thermal)
  | rule => exact hclear _ _ (h .rule)

theorem alertClearRequest_steady (sources : Byte) : s.Steady opens (alertClearRequest sources s).1 := by
  unfold alertClearRequest
  dsimp only
  split
  · exact .refl s
  · exact State.steady_notices _ _ fun hroom => hroom.clearAlerts sources

theorem counterMaskRequest_steady (slot events unit : Byte) :
    s.Steady opens (counterMaskRequest slot events unit s).1 := by
  unfold counterMaskRequest
  split
  · exact .refl s
  · exact State.steady_notices _ _ fun hroom => hroom.of_queue fun q => by cases q <;> rfl

theorem counterReadRequest_steady (zone : Byte) : s.Steady opens (counterReadRequest zone s).1 := by
  unfold counterReadRequest
  split <;> exact .refl s

theorem counterClearRequest_steady (zone : Byte) : s.Steady opens (counterClearRequest zone s).1 := by
  unfold counterClearRequest
  split
  · exact State.steady_notices _ _ fun hroom => hroom.of_queue fun q => by cases q <;> rfl
  split
  · exact .refl s
  · exact State.steady_notices _ _ fun hroom => hroom.of_queue fun q => by cases q <;> rfl

/-! ## Expiries and overdue events -/

theorem raiseExpiry_steady : s.Steady opens s.raiseExpiry := by
  unfold State.raiseExpiry
  split
  · exact .refl s
  · exact (s.steady_modTimer _).trans (State.steady_modEngine _ _ rfl rfl id id fun _ => id)

theorem lapse_steady (x : Expiry) : s.Steady opens (s.lapse x) := by
  unfold State.lapse
  split
  · exact .refl s
  next r hrec =>
  have hlive := State.records_ne_nil hrec
  split
  · split
    · exact (s.steady_bookingLapse _ _ _ _).of_live hlive
    · exact .refl s
  · split
    · exact (s.steady_claimLapse _ _ _ _).of_live hlive
    · exact .refl s
  · exact .refl s

theorem takeExpiry_steady (i : Nat) : s.Steady opens (s.takeExpiry i) := by
  unfold State.takeExpiry
  split
  · exact .refl s
  split
  · exact .refl s
  · exact (s.steady_modEngine _ rfl rfl id id fun _ => id).trans (lapse_steady _)

theorem takeOverdue_steady (i : Nat) : s.Steady opens (s.takeOverdue i) := by
  unfold State.takeOverdue
  split
  · exact .refl s
  split
  · exact .refl s
  · exact (s.steady_modEngine _ rfl rfl id id fun _ => id).trans (State.steady_overdueTaken _ _)

end Sys2Proof.Machine
end

section
/-! SUPPORT. The laws of the mode and of the bounds, block by block, and what keeps them: steady changes, the requests of the
Dwell Unit and the links, and the passage of time. -/

namespace Sys2Proof.Machine

/-! ## The laws block by block -/

/-- The Custody Engine's part: SETUP holds no live record, and a FLUSH from the host is in progress exactly in FLUSHING
(R204, R210). -/
def Engine.ModeLaw (e : Engine) : Prop :=
  (e.mode = .setup → e.records = []) ∧ (e.mode = .flushing ↔ e.flush.isSome) ∧
    ∀ run, e.flush = some run → run.request.port = .host

/-- The Dwell Unit's part, by the mode: timer and passes as R163, R164 and R167 say, and the zones in range (R152). -/
def DwellUnit.Law (mode : Mode) (d : DwellUnit) : Prop :=
  (mode = .run ↔ d.timer.isSome) ∧ (d.cursor.isSome → mode = .run) ∧ (d.passPending = true → d.cursor.isSome) ∧
    ∀ p ∈ d.zones, p.2.law

/-- The Port Unit's part: both links keep their law, and no input queue holds more than 16 requests (R192, R195). -/
def PortUnit.Law (p : PortUnit) : Prop :=
  (∀ l, (p.robotLink l).law) ∧ ∀ port, (p.queue port).length ≤ Config.inputRoom

/-- The laws of the mode and of the bounds, block by block. -/
structure State.Sound (s : State) : Prop where
  engine : s.engine.ModeLaw
  dwell : s.dwell.Law s.engine.mode
  ports : s.ports.Law
  tables : s.TablesWf
  notices : s.notices.WithinRoom

theorem State.sound_iff (s : State) : s.Sound ↔ s.modeLaw ∧ s.boundsLaw := by
  constructor
  · rintro ⟨⟨hsetup, hflush, hhost⟩, ⟨htimer, hcursor, hpending, hzones⟩, ⟨hlinks, hqueues⟩, ⟨hc, hr, hp, hu⟩, hnotices⟩
    exact ⟨⟨hsetup, hflush, htimer, hcursor, hpending, hhost⟩, hc, hr, hp, hu, hlinks .a, hlinks .b, hzones, hqueues,
      hnotices⟩
  · rintro ⟨⟨hsetup, hflush, htimer, hcursor, hpending, hhost⟩, hc, hr, hp, hu, ha, hb, hzones, hqueues, hnotices⟩
    exact ⟨⟨hsetup, hflush, hhost⟩, ⟨htimer, hcursor, hpending, hzones⟩, ⟨fun l => by cases l; exacts [ha, hb], hqueues⟩,
      ⟨hc, hr, hp, hu⟩, hnotices⟩

/-- A steady change keeps the laws; records are opened in RUN alone. -/
theorem State.Steady.sound {s t : State} {opens : Prop} (h : s.Steady opens t) (hrun : opens → s.engine.mode = .run)
    (hs : s.Sound) : t.Sound := by
  obtain ⟨⟨hsetup, hflush, hhost⟩, hdwell, hports, htables, hnotices⟩ := hs
  refine ⟨⟨fun hmode => ?_, ?_, ?_⟩, ?_, ?_, h.tables htables, h.notices hnotices⟩
  · rw [h.mode] at hmode
    exact h.empty (fun hopens => by rw [hrun hopens] at hmode; cases hmode) (hsetup hmode)
  · rw [h.mode, h.flush]; exact hflush
  · rw [h.flush]; exact hhost
  · rw [h.mode, h.dwell]; exact hdwell
  · rw [h.ports]; exact hports

/-! ## The Port Unit -/

/-- An input queue is no part of a link's law. -/
theorem PortUnit.law_robotLink_setQueue (p : PortUnit) (port : Port) (q : List Frame) (l : Link) :
    ((p.setQueue port q).robotLink l).law ↔ (p.robotLink l).law := by
  rcases port with (_ | _) | _ <;> cases l <;> exact Iff.rfl

theorem PortUnit.queue_setQueue (p : PortUnit) (port port' : Port) (q : List Frame) :
    (p.setQueue port q).queue port' = if port' = port then q else p.queue port' := by
  rcases port with (_ | _) | _ <;> rcases port' with (_ | _) | _ <;> rfl

theorem PortUnit.queue_modLink (p : PortUnit) (l : Link) {f : RobotLink → RobotLink} (hf : ∀ k, (f k).queue = k.queue)
    (port : Port) : (p.modLink l f).queue port = p.queue port := by
  cases l with
  | a => rcases port with (_ | _) | _; exacts [hf _, rfl, rfl]
  | b => rcases port with (_ | _) | _; exacts [rfl, hf _, rfl]

namespace PortUnit.Law

variable {p : PortUnit}

theorem setQueue (hp : p.Law) (port : Port) {q : List Frame} (hq : q.length ≤ Config.inputRoom) :
    (p.setQueue port q).Law := by
  obtain ⟨hlinks, hqueues⟩ := hp
  refine ⟨fun l => (p.law_robotLink_setQueue port q l).2 (hlinks l), fun port' => ?_⟩
  rw [PortUnit.queue_setQueue]
  split
  · exact hq
  · exact hqueues port'

theorem take (hp : p.Law) : p.take.Law := by
  unfold PortUnit.take
  split
  · next port _ =>
    obtain ⟨hlinks, hqueues⟩ := hp.setQueue port (q := (p.queue port).tail)
      ((p.queue port).length_tail ▸ (Nat.sub_le _ _).trans (hp.2 port))
    exact ⟨fun l => by cases l; exacts [hlinks .a, hlinks .b], fun port' => by
      rcases port' with (_ | _) | _; exacts [hqueues (.link .a), hqueues (.link .b), hqueues .host]⟩
  · exact hp

/-- A change of one link that keeps its law and its input queue. -/
theorem modLink (hp : p.Law) (l : Link) {f : RobotLink → RobotLink} (hlaw : ∀ k : RobotLink, k.law → (f k).law)
    (hqueue : ∀ k, (f k).queue = k.queue) : (p.modLink l f).Law := by
  obtain ⟨hlinks, hqueues⟩ := hp
  refine ⟨fun m => ?_, fun port => p.queue_modLink l hqueue port ▸ hqueues port⟩
  rw [PortUnit.robotLink_modLink]
  split
  · exact hlaw _ (hlinks m)
  · exact hlinks m

/-- The replies held back are no part of the law. -/
theorem unsent (hp : p.Law) {frames : List Frame} : ({ p with unsent := frames } : PortUnit).Law :=
  ⟨fun l => by cases l; exacts [hp.1 .a, hp.1 .b], fun port => by
    rcases port with (_ | _) | _; exacts [hp.2 (.link .a), hp.2 (.link .b), hp.2 .host]⟩

end PortUnit.Law

/-- A request that a port accepts finds room in its input queue (R191). -/
theorem PortUnit.room_of_accepted {p : PortUnit} {f : Frame} (h : p.refusal f = none) :
    (p.queue f.port).length < Config.inputRoom := by
  by_contra hroom
  simp only [PortUnit.refusal, if_neg hroom] at h
  split_ifs at h

namespace State.Sound

variable {s : State}

/-- A change that opens no record keeps the laws in any mode. -/
theorem steady {t : State} (hs : s.Sound) (h : s.Steady False t) : t.Sound := h.sound False.elim hs

theorem modPorts (hs : s.Sound) {f : PortUnit → PortUnit} (hf : (f s.ports).Law) : (s.modPorts f).Sound :=
  ⟨hs.engine, hs.dwell, hf, hs.tables, hs.notices⟩

theorem modDwell (hs : s.Sound) {f : DwellUnit → DwellUnit} (hf : (f s.dwell).Law s.engine.mode) : (s.modDwell f).Sound :=
  ⟨hs.engine, hf, hs.ports, hs.tables, hs.notices⟩

theorem send (hs : s.Sound) (sent : List Frame) : ({ s with sent := sent } : State).Sound :=
  ⟨hs.engine, hs.dwell, hs.ports, hs.tables, hs.notices⟩

theorem sendReply (hs : s.Sound) (f : Frame) (a : Answer) : (s.sendReply f a).Sound := by
  obtain ⟨sent, h⟩ := s.sendReply_eq f a
  rw [h]
  exact hs.send sent

/-! ## Requests presented, taken and answered -/

theorem present (hs : s.Sound) (f : Frame) : (s.present f).Sound := by
  cases h : s.ports.refusal f with
  | some r => rw [State.present_refused h]; exact hs.sendReply f _
  | none =>
    rw [State.present_accepted h]
    refine hs.modPorts (hs.ports.setQueue f.port ?_)
    simpa using PortUnit.room_of_accepted h

theorem respond (hs : s.Sound) (f : Frame) (a : Answer) : (s.respond f a).Sound := by
  unfold State.respond
  split
  · exact hs.modPorts hs.ports.unsent
  · exact hs.sendReply f a

theorem ready (hs : s.Sound) {c : Instr} {f : Frame} {u : State} (h : s.ready c = some (f, u)) : u.Sound := by
  rw [s.ready_eq (State.ready_frame h)] at h
  have hpresent : (if s.ports.nextRequest = some f then s else s.present f).Sound := by
    split
    · exact hs
    · exact hs.present f
  generalize (if s.ports.nextRequest = some f then s else s.present f) = s1 at h hpresent
  split at h
  · obtain ⟨-, rfl⟩ := Prod.mk.inj (Option.some.inj h)
    exact hpresent.modPorts hpresent.ports.take
  · cases h

/-- A request is served with the laws kept when its own checks and effects keep them. -/
theorem serve (hs : s.Sound) {c : Instr} {run : Frame → State → Served}
    (hrun : ∀ f u, c.frame = some f → State.Sound u → (run f u).1.Sound) : (s.serve c run).Sound := by
  cases hf : c.frame with
  | none => simpa only [State.serve, hf] using hs
  | some f =>
    cases hr : s.ready c with
    | none => rw [State.serve_waits hf hr]; exact hs.present f
    | some p =>
      obtain ⟨f', u⟩ := p
      have hserved := hrun f' u (State.ready_frame hr) (hs.ready hr)
      rw [State.serve_ready hr]
      split
      · exact hserved.respond f' _
      · exact hserved

/-- A management request outside FLUSHING (R205). -/
theorem serve_host (hs : s.Sound) {c : Instr} {own : State → State × Answer}
    (hown : ∀ u : State, u.engine.mode ≠ .flushing → u.Sound → (own u).1.Sound) :
    (s.serve c (hostService own)).Sound := by
  refine hs.serve fun f u _ hu => ?_
  unfold hostService
  split
  · exact hu
  · next hmode => exact hown u hmode hu

theorem serve_host_steady (hs : s.Sound) {c : Instr} {own : State → State × Answer}
    (hown : ∀ u : State, u.Steady False (own u).1) : (s.serve c (hostService own)).Sound :=
  hs.serve_host fun u _ hu => hu.steady (hown u)

/-- A robot request is served in RUN alone, where it may open a record (R49). -/
theorem serve_robot (hs : s.Sound) {c : Instr} {l : Link} {hd : Hdr} {own : Nat → State → State × Answer}
    (hown : ∀ n (v : State), v.Steady True (own n v).1) : (s.serve c (robotService l hd own)).Sound := by
  refine hs.serve fun f u _ hu => ?_
  unfold robotService
  split
  · exact hu
  next hmode =>
  dsimp only
  split
  · exact hu
  split
  · exact hu
  · exact ((u.steady_linkUpdate _ _ _).trans (hown _ _)).sound (fun _ => not_not.1 hmode) hu

end State.Sound

/-! ## Classes and zones -/

variable {s : State}

theorem Zone.law_reset : Zone.reset.law := by simp [Zone.law, Zone.reset]

/-- Every zone keeps its law, listed or not (R152). -/
theorem State.Sound.zone (hs : s.Sound) (n : Nat) : (s.zone n).law := by
  obtain ⟨-, -, -, hzones⟩ := hs.dwell
  unfold State.zone Table.lookD
  cases h : s.dwell.zones.look n with
  | none => exact Zone.law_reset
  | some z => exact hzones _ (Table.mem_of_look h)

theorem State.Sound.putZone (hs : s.Sound) (n : Nat) {z : Zone} (hz : z.law) : (s.putZone n z).Sound := by
  obtain ⟨htimer, hcursor, hpending, hzones⟩ := hs.dwell
  exact hs.modDwell ⟨htimer, hcursor, hpending, fun p hp => (Table.mem_putD hp).elim (fun e => e ▸ hz) (hzones p)⟩

theorem clampTemperature_range (t : Int) : -120 ≤ clampTemperature t ∧ clampTemperature t ≤ 120 := by
  unfold clampTemperature
  omega

theorem Zone.law_withFeed {z : Zone} (hz : z.law) (sensor : Bool) : (z.withFeed sensor).law := by
  obtain ⟨hlow, hhigh, hpasses, hmanual⟩ := hz
  unfold Zone.withFeed
  split
  · exact ⟨hlow, hhigh, hpasses, hmanual⟩
  split
  · exact ⟨hlow, hhigh, Nat.zero_le _, nofun⟩
  · exact ⟨hlow, hhigh, hpasses, fun _ => rfl⟩

theorem agedZone_law {z : Zone} (hz : z.law) (limit : Nat) : (agedZone limit z).law := by
  obtain ⟨hlow, hhigh, hpasses, hmanual⟩ := hz
  unfold agedZone
  split
  · next hsensor => exact ⟨hlow, hhigh, Nat.min_le_left _ _, fun h => by rw [hsensor] at h; cases h⟩
  · exact ⟨hlow, hhigh, hpasses, hmanual⟩

theorem classWriteRequest_sound (hs : s.Sound) (cls : Byte) (b : ClassBytes) : (classWriteRequest cls b s).1.Sound := by
  unfold classWriteRequest
  split
  · exact hs
  next c _ =>
  split
  · exact hs
  · exact hs.modDwell (f := fun d => d.setParams c (ClassBytes.params b)) (by cases c <;> exact hs.dwell)

theorem zoneSenseRequest_sound (hs : s.Sound) (zone : Byte) (reading : Half) :
    (zoneSenseRequest zone reading s).1.Sound := by
  unfold zoneSenseRequest
  dsimp only
  split
  · exact hs
  split
  · exact hs
  · obtain ⟨hlow, hhigh⟩ := clampTemperature_range reading.toInt
    have hread : ({ s.zone zone.toNat with
        temperature := clampTemperature reading.toInt, passes := 0, stale := false } : Zone).law :=
      ⟨hlow, hhigh, Nat.zero_le _, fun _ => rfl⟩
    exact (hs.putZone _ hread).steady (.ite (State.steady_post _ _ _))

theorem zoneSetRequest_sound (hs : s.Sound) (zone : Byte) (temperature : Half) :
    (zoneSetRequest zone temperature s).1.Sound := by
  obtain ⟨-, -, hpasses, hmanual⟩ := hs.zone zone.toNat
  unfold zoneSetRequest
  dsimp only
  split
  · exact hs
  split
  · exact hs
  · obtain ⟨hlow, hhigh⟩ := clampTemperature_range temperature.toInt
    exact hs.putZone _ ⟨hlow, hhigh, hpasses, hmanual⟩

theorem zoneModeRequest_sound (hs : s.Sound) (zone mode : Byte) : (zoneModeRequest zone mode s).1.Sound := by
  unfold zoneModeRequest
  dsimp only
  split
  · exact hs
  · exact hs.putZone _ (Zone.law_withFeed (hs.zone _) _)

theorem dwellSetRequest_sound (hs : s.Sound) (p l m : Byte) : (dwellSetRequest p l m s).1.Sound := by
  obtain ⟨htimer, hcursor, hpending, hzones⟩ := hs.dwell
  have hset : (s.modDwell fun d =>
      { d with period := p.toNat, staleLimit := l.toNat, staleMargin := m.toNat }).Sound := hs.modDwell hs.dwell
  unfold dwellSetRequest
  split
  · dsimp only
    split
    · next hmode => exact hset.modDwell ⟨by simp [hmode, DwellUnit.startTimer], hcursor, hpending, hzones⟩
    · exact hset
  · exact hs

/-! ## Links -/

theorem linkSetRequest_sound (hs : s.Sound) (selector booking claim silence : Byte) :
    (linkSetRequest selector booking claim silence s).1.Sound := by
  have hwindow : ∀ b, 1 ≤ windowOf b := fun b => Nat.le_max_left _ _
  have hsilence : ∀ b, 1 ≤ silenceLimitOf b ∧ silenceLimitOf b ≤ 40 := fun b => by
    unfold silenceLimitOf
    omega
  unfold linkSetRequest
  split
  · exact hs
  next links _ _ =>
  dsimp only
  refine hs.modPorts (List.foldlRecOn links _ hs.ports fun p hp l _ => hp.modLink l (fun k hk => ?_) fun k => rfl)
  obtain ⟨hup, hmirror, -⟩ := hk
  exact ⟨hup, hmirror, hwindow _, windowOf_le _, hwindow _, windowOf_le _, hsilence _⟩

/-- A link that turns UP or DOWN keeps its law, and the holds of its parties' records follow (R195). -/
theorem State.Sound.linkTurned (hs : s.Sound) (l : Link) (up : Bool) {f : RobotLink → RobotLink}
    (hlaw : ∀ k : RobotLink, k.law → (f k).law) (hqueue : ∀ k, (f k).queue = k.queue) :
    ((s.modPorts fun p => p.modLink l f).linkEvent l up).Sound :=
  (hs.modPorts (hs.ports.modLink l hlaw hqueue)).steady ((State.steady_alignLink _ l up).trans (State.steady_linkEdge _))

theorem frameArrives_sound (hs : s.Sound) (port : Port) (bytes : List Byte) : (s.frameArrives port bytes).Sound := by
  unfold State.frameArrives
  split
  · exact hs
  next f _ =>
  have hlaw : ∀ k : RobotLink, k.law →
      ({ k with silence := some (k.silenceLimit * 250), mirror := flagAt f.flags 0, up := true } : RobotLink).law :=
    fun k ⟨_, _, hranges⟩ => ⟨by simp, nofun, hranges⟩
  have hlink : ∀ l, (s.goodOnLink l f).Sound := fun l => by
    unfold State.goodOnLink
    dsimp only
    split
    · exact hs.modPorts (hs.ports.modLink l hlaw fun _ => rfl)
    · exact hs.linkTurned l true hlaw fun _ => rfl
  have hgood : (match f.port with
      | .link l => s.goodOnLink l f
      | .host => s).Sound := by
    split
    · exact hlink _
    · exact hs
  unfold State.goodArrival
  dsimp only
  split
  · exact hgood
  · exact hgood.present f

theorem silenceExpires_sound (hs : s.Sound) (l : Link) : (s.silenceExpires l).Sound := by
  unfold State.silenceExpires
  split
  · exact hs.linkTurned l false (fun k ⟨_, _, hranges⟩ => ⟨by simp, fun _ => rfl, hranges⟩) fun _ => rfl
  · exact hs

theorem RobotLink.law_ticked {k : RobotLink} (hk : k.law) : ({ k with silence := tick k.silence } : RobotLink).law := by
  obtain ⟨hup, hrest⟩ := hk
  exact ⟨by rw [hup]; cases k.silence <;> simp [tick], hrest⟩

theorem millisecond_sound (hs : s.Sound) : s.millisecond.Sound := by
  obtain ⟨hlinks, hqueues⟩ := hs.ports
  obtain ⟨htimer, hrest⟩ := hs.dwell
  refine ⟨hs.engine, ⟨?_, hrest⟩, ⟨fun l => ?_, fun port => ?_⟩, hs.tables, hs.notices⟩
  · refine htimer.trans ?_
    simp [State.millisecond, tick]
  · cases l
    · exact RobotLink.law_ticked (hlinks .a)
    · exact RobotLink.law_ticked (hlinks .b)
  · rcases port with (_ | _) | _
    exacts [hqueues (.link .a), hqueues (.link .b), hqueues .host]

end Sys2Proof.Machine
end

section
/-! SUPPORT. The passes, the device mode and FLUSH keep the laws of the mode and of the bounds, and so does every step. -/

namespace Sys2Proof.Machine

variable {s : State}

/-! ## Passes -/

theorem State.Sound.beginPass (hs : s.Sound) (hmode : s.engine.mode = .run) : s.beginPass.Sound := by
  obtain ⟨hzones, hrun⟩ := List.foldlRecOn (motive := fun t : State => t.Sound ∧ t.engine.mode = .run) zoneNumbers
    (fun t n => t.putZone n (agedZone s.dwell.staleLimit (s.zone n))) ⟨hs, hmode⟩
    fun t ⟨ht, htmode⟩ n _ => ⟨ht.putZone n (agedZone_law (hs.zone n) _), htmode⟩
  have hposted : State.Steady False _ s.ageZones := State.steady_foldl
    (fun t n => t.post .thermal (zoneNotice .zoneStale n (byteOf (agedPasses (s.zone n)))))
    (fun t n => t.steady_post _ _) s.newlyStale _
  have hs' := hzones.steady hposted
  obtain ⟨htimer, -, -, hlaws⟩ := hs'.dwell
  exact hs'.modDwell ⟨htimer, fun _ => hposted.mode.trans hrun, fun _ => rfl, hlaws⟩

theorem periodExpiry_sound (hs : s.Sound) : s.periodExpiry.Sound := by
  obtain ⟨htimer, hcursor, hpending, hzones⟩ := hs.dwell
  unfold State.periodExpiry
  split
  · next hzero =>
    have hmode : s.engine.mode = .run := htimer.2 (by rw [hzero]; rfl)
    have hstarted : (s.modDwell DwellUnit.startTimer).Sound :=
      hs.modDwell ⟨by simp [hmode, DwellUnit.startTimer], hcursor, hpending, hzones⟩
    dsimp only
    split
    · next hflight =>
      exact hstarted.modDwell ⟨by simp [hmode, DwellUnit.startTimer], hcursor, fun _ => hflight, hzones⟩
    · exact hstarted.beginPass hmode
  · exact hs

theorem State.Sound.endPass (hs : s.Sound) (hmode : s.engine.mode = .run) : s.endPass.Sound := by
  obtain ⟨htimer, -, -, hzones⟩ := hs.dwell
  unfold State.endPass
  dsimp only
  split
  · refine State.Sound.beginPass (hs.modDwell (f := fun d =>
      { d with cursor := none, passes := d.passes + 1, passPending := false }) ⟨htimer, nofun, nofun, hzones⟩) hmode
  · next hpending => exact hs.modDwell ⟨htimer, nofun, fun h => absurd h hpending, hzones⟩

theorem accrualStep_sound (hs : s.Sound) : s.accrualStep.Sound := by
  unfold State.accrualStep
  split
  · exact hs
  next slot hslot =>
  have hmode : s.engine.mode = .run := hs.dwell.2.1 (by rw [hslot]; rfl)
  have hvisit := s.steady_visit slot
  have hvisited := hvisit.sound (fun _ => hmode) hs
  have hmode' := hvisit.mode.trans hmode
  obtain ⟨htimer, -, -, hzones⟩ := hvisited.dwell
  dsimp only
  split
  · exact hvisited.modDwell ⟨htimer, fun _ => hmode', fun _ => rfl, hzones⟩
  · exact hvisited.endPass hmode'

/-! ## Mode, FLUSH and reset -/

/-- A Dwell Unit that stands still outside one mode but RUN does so in another. -/
theorem DwellUnit.Law.of_not_run {d : DwellUnit} {m m' : Mode} (h : d.Law m) (hm : m ≠ .run) (hm' : m' ≠ .run) :
    d.Law m' := by
  obtain ⟨htimer, hcursor, hrest⟩ := h
  exact ⟨iff_of_false hm' fun ht => hm (htimer.2 ht), fun hc => absurd (hcursor hc) hm, hrest⟩

/-- Outside RUN the timer is stopped and the passes are given up (R163, R167). -/
theorem DwellUnit.Law.stopped {d : DwellUnit} {m m' : Mode} (h : d.Law m) (hm' : m' ≠ .run) :
    ({ d.abandonPass with timer := none } : DwellUnit).Law m' := by
  obtain ⟨-, -, -, hzones⟩ := h
  exact ⟨iff_of_false hm' nofun, nofun, nofun, hzones⟩

theorem State.records_eq_nil_of_liveCount (h : s.liveCount = 0) : s.engine.records = [] := List.eq_nil_of_length_eq_zero h

theorem modeRequest_sound (hmode : s.engine.mode ≠ .flushing) (hs : s.Sound) (requested : Byte) :
    (modeRequest requested s).1.Sound := by
  have ⟨⟨_, hflush, hhost⟩, hdwell, hports, htables, hnotices⟩ := hs
  have hidle : ∀ m, m ≠ Mode.flushing → (m = .flushing ↔ s.engine.flush.isSome = true) := fun m hm =>
    iff_of_false hm fun h => hmode (hflush.2 h)
  unfold modeRequest
  split
  · split
    · exact hs
    · obtain ⟨-, -, hpending, hzones⟩ := hdwell
      exact ⟨⟨nofun, hidle .run nofun, hhost⟩, ⟨iff_of_true rfl rfl, fun _ => rfl, hpending, hzones⟩, hports, htables,
        hnotices⟩
  split
  · split
    · exact hs
    split
    · exact hs
    · next hempty =>
      exact ⟨⟨fun _ => State.records_eq_nil_of_liveCount (not_not.1 hempty), hidle .setup nofun, hhost⟩,
        hdwell.stopped nofun, hports, htables, hnotices⟩
  · exact hs

/-- A FLUSH ends with an empty table, and the mode becomes SETUP (R210). -/
theorem State.Sound.endFlush (hs : s.Sound) (hmode : s.engine.mode = .flushing) (hempty : s.engine.records = []) :
    s.endFlush.Sound := by
  have hsetup : (s.modEngine fun e => { e with mode := .setup, flush := none }).Sound :=
    ⟨⟨fun _ => hempty, iff_of_false nofun nofun, nofun⟩, hs.dwell.of_not_run (by rw [hmode]; nofun) nofun, hs.ports,
      hs.tables, hs.notices⟩
  have hreplied : ∀ t : State, t.Sound →
      ((t.send s.ports.unsent).modPorts fun p => { p with unsent := [] }).Sound := fun t ht =>
    State.Sound.modPorts (ht.send _) ht.ports.unsent
  unfold State.endFlush
  dsimp only
  split
  · exact hreplied _ (hsetup.sendReply _ _)
  · exact hreplied _ hsetup

theorem State.Sound.beginFlush (hs : s.Sound) {f : Frame} (hport : f.port = .host) : (s.beginFlush f).Sound :=
  ⟨⟨nofun, iff_of_true rfl rfl, fun run hrun => by cases hrun; exact hport⟩, hs.dwell.stopped nofun, hs.ports, hs.tables,
    hs.notices⟩

theorem flushService_sound (hs : s.Sound) {f : Frame} (hport : f.port = .host) : (flushService f s).1.Sound := by
  unfold flushService
  split
  · exact hs
  · exact hs
  · dsimp only
    split
    · next hempty => exact (hs.beginFlush hport).endFlush rfl (State.records_eq_nil_of_liveCount hempty)
    · exact hs.beginFlush hport

theorem flushStep_sound (hs : s.Sound) : s.flushStep.Sound := by
  unfold State.flushStep
  split
  · exact hs
  next hmode =>
  have hflushing := not_not.1 hmode
  split
  · next hempty => exact hs.endFlush hflushing hempty
  next slot r _ _ =>
  have hretire := s.steady_retire (opens := False) (s.handleOf slot) r
  have hmode' := hretire.mode.trans hflushing
  have hretired := hs.steady hretire
  generalize s.retire (s.handleOf slot) r = t at hretired hmode'
  have hcounted : (t.modEngine fun e => { e with flush := e.flush.map FlushRun.more }).Sound := by
    obtain ⟨⟨hsetup, hflush, hhost⟩, hdwell, hports, htables, hnotices⟩ := hretired
    refine ⟨⟨hsetup, ?_, fun run hrun => ?_⟩, hdwell, hports, htables, hnotices⟩
    · refine hflush.trans ?_
      simp
    · obtain ⟨run', hrun', rfl⟩ := Option.map_eq_some_iff.1 hrun
      exact hhost run' hrun'
  dsimp only
  split
  · next hempty => exact hcounted.endFlush hmode' (State.records_eq_nil_of_liveCount hempty)
  · exact hcounted

/-- After a device reset every law holds (R211). -/
theorem State.sound_deviceReset (s : State) : s.deviceReset.Sound :=
  have hreset := (State.sound_iff _).2 ⟨modeLaw_reset, boundsLaw_reset⟩
  ⟨hreset.engine, hreset.dwell, hreset.ports, hreset.tables, hreset.notices⟩

theorem resetService_sound (hs : s.Sound) (f : Frame) : (resetService f s).1.Sound := by
  unfold resetService
  split
  · exact hs
  · exact State.sound_deviceReset _

/-! ## What every step keeps -/

theorem exec_sound (hs : s.Sound) (c : Instr) : ∃ t, exec c s = .next t ∧ t.Sound := by
  cases c with
  | frameArrival port bytes => exact ⟨_, rfl, frameArrives_sound hs port bytes⟩
  | silenceTimerExpiry l => exact ⟨_, rfl, silenceExpires_sound hs l⟩
  | declare => exact ⟨_, rfl, hs.serve_robot fun _ _ => declareRequest_steady ..⟩
  | book => exact ⟨_, rfl, hs.serve_robot fun _ _ => bookRequest_steady ..⟩
  | unbook => exact ⟨_, rfl, hs.serve_robot fun _ _ => unbookRequest_steady _⟩
  | setdown => exact ⟨_, rfl, hs.serve_robot fun _ _ => setdownRequest_steady _⟩
  | claim => exact ⟨_, rfl, hs.serve_robot fun _ _ => claimRequest_steady ..⟩
  | seek => exact ⟨_, rfl, hs.serve_robot fun _ _ => seekRequest_steady _⟩
  | yieldBin => exact ⟨_, rfl, hs.serve_robot fun _ _ => yieldRequest_steady _⟩
  | takeup => exact ⟨_, rfl, hs.serve_robot fun _ _ => takeupRequest_steady _⟩
  | finish => exact ⟨_, rfl, hs.serve_robot fun _ _ => finishRequest_steady ..⟩
  | queryBin => exact ⟨_, rfl, hs.serve_robot fun _ _ => queryBinRequest_steady _⟩
  | queryCell => exact ⟨_, rfl, hs.serve_robot fun _ _ => queryCellRequest_steady _⟩
  | cellWrite => exact ⟨_, rfl, hs.serve_host_steady fun _ => cellWriteRequest_steady ..⟩
  | cellDelete => exact ⟨_, rfl, hs.serve_host_steady fun _ => cellDeleteRequest_steady _⟩
  | cellDrain => exact ⟨_, rfl, hs.serve_host_steady fun _ => cellDrainRequest_steady ..⟩
  | cellReopen => exact ⟨_, rfl, hs.serve_host_steady fun _ => cellReopenRequest_steady _⟩
  | robotEnrol => exact ⟨_, rfl, hs.serve_host_steady fun _ => robotEnrolRequest_steady ..⟩
  | robotWithdraw => exact ⟨_, rfl, hs.serve_host_steady fun _ => robotWithdrawRequest_steady _⟩
  | robotSuspend => exact ⟨_, rfl, hs.serve_host_steady fun _ => robotSuspendRequest_steady _⟩
  | robotResume => exact ⟨_, rfl, hs.serve_host_steady fun _ => robotResumeRequest_steady _⟩
  | robotRead => exact ⟨_, rfl, hs.serve_host_steady fun _ => robotReadRequest_steady _⟩
  | missLimit => exact ⟨_, rfl, hs.serve_host_steady fun _ => missLimitRequest_steady _⟩
  | planWrite => exact ⟨_, rfl, hs.serve_host_steady fun _ => planWriteRequest_steady ..⟩
  | planClear => exact ⟨_, rfl, hs.serve_host_steady fun _ => planClearRequest_steady _⟩
  | planRead => exact ⟨_, rfl, hs.serve_host_steady fun _ => planReadRequest_steady _⟩
  | classWrite => exact ⟨_, rfl, hs.serve_host fun _ _ hu => classWriteRequest_sound hu ..⟩
  | classRead => exact ⟨_, rfl, hs.serve_host_steady fun _ => classReadRequest_steady _⟩
  | zoneMode => exact ⟨_, rfl, hs.serve_host fun _ _ hu => zoneModeRequest_sound hu ..⟩
  | zoneSense => exact ⟨_, rfl, hs.serve_host fun _ _ hu => zoneSenseRequest_sound hu ..⟩
  | zoneSet => exact ⟨_, rfl, hs.serve_host fun _ _ hu => zoneSetRequest_sound hu ..⟩
  | zoneRead => exact ⟨_, rfl, hs.serve_host_steady fun _ => zoneReadRequest_steady _⟩
  | dwellSet => exact ⟨_, rfl, hs.serve_host fun _ _ hu => dwellSetRequest_sound hu ..⟩
  | ruleWrite => exact ⟨_, rfl, hs.serve_host_steady fun _ => ruleWriteRequest_steady _⟩
  | ruleRead => exact ⟨_, rfl, hs.serve_host_steady fun _ => ruleReadRequest_steady _⟩
  | ruleHits => exact ⟨_, rfl, hs.serve_host_steady fun _ => ruleHitsRequest_steady _⟩
  | linkSet => exact ⟨_, rfl, hs.serve_host fun _ _ hu => linkSetRequest_sound hu ..⟩
  | linkRead => exact ⟨_, rfl, hs.serve_host_steady fun _ => linkReadRequest_steady _⟩
  | mode => exact ⟨_, rfl, hs.serve_host fun _ hmode hu => modeRequest_sound hmode hu _⟩
  | status => exact ⟨_, rfl, hs.serve fun _ _ _ hu => hu⟩
  | lookup => exact ⟨_, rfl, hs.serve_host_steady fun _ => lookupRequest_steady ..⟩
  | scan => exact ⟨_, rfl, hs.serve_host_steady fun _ => scanRequest_steady ..⟩
  | retire => exact ⟨_, rfl, hs.serve_host_steady fun _ => retireRequest_steady _⟩
  | flush => exact ⟨_, rfl, hs.serve fun f u hf hu => flushService_sound hu (by cases hf; rfl)⟩
  | flushRetirement => exact ⟨_, rfl, flushStep_sound hs⟩
  | reset => exact ⟨_, rfl, hs.serve fun f _ _ hu => resetService_sound hu f⟩
  | deviceReset => exact ⟨_, rfl, s.sound_deviceReset⟩
  | noticeRead => exact ⟨_, rfl, hs.serve_host_steady fun _ => noticeReadRequest_steady ..⟩
  | alertRead => exact ⟨_, rfl, hs.serve_host_steady fun u => State.Steady.refl u⟩
  | alertMask => exact ⟨_, rfl, hs.serve_host_steady fun _ => alertMaskRequest_steady _⟩
  | alertClear => exact ⟨_, rfl, hs.serve_host_steady fun _ => alertClearRequest_steady _⟩
  | counterMask => exact ⟨_, rfl, hs.serve_host_steady fun _ => counterMaskRequest_steady ..⟩
  | counterRead => exact ⟨_, rfl, hs.serve_host_steady fun _ => counterReadRequest_steady _⟩
  | counterClear => exact ⟨_, rfl, hs.serve_host_steady fun _ => counterClearRequest_steady _⟩
  | deadlineReached => exact ⟨_, rfl, hs.steady raiseExpiry_steady⟩
  | expiryTaken i => exact ⟨_, rfl, hs.steady (takeExpiry_steady i)⟩
  | accrualPeriodExpiry => exact ⟨_, rfl, periodExpiry_sound hs⟩
  | accrualVisit => exact ⟨_, rfl, accrualStep_sound hs⟩
  | overdueEvent i => exact ⟨_, rfl, hs.steady (takeOverdue_steady i)⟩
  | gridClockAdvance => exact ⟨_, rfl, millisecond_sound hs⟩

theorem step_sound {t : State} (hs : s.Sound) (hstep : step s = .next t) : t.Sound := by
  unfold step at hstep
  split at hstep
  · cases hstep; exact hs
  · next c rest _ =>
    have hrest : State.Sound { s with pending := rest } := ⟨hs.engine, hs.dwell, hs.ports, hs.tables, hs.notices⟩
    obtain ⟨t', hexec, ht'⟩ := exec_sound hrest c
    rw [hexec] at hstep
    cases hstep
    exact ht'

/-- Settles O59. Block by block, each command is steady or keeps the law of the block it writes; the two laws need no law of
the slots beside them. -/
theorem stepKeepsModeAndBounds : Obligations.StepKeepsModeAndBounds := fun s t _ hmode hbounds hstep =>
  t.sound_iff.1 (step_sound (s.sound_iff.2 ⟨hmode, hbounds⟩) hstep)

end Sys2Proof.Machine
end

section
/-! SUPPORT. The requests of the Dwell Unit and MODE: their checks in order, what they write, and the blocks they answer
with. -/

namespace Sys2Proof.Machine

/-! ## The block of a zone -/

theorem zoneBlock_eq {s : State} {zone : Byte} {margin : Nat} {z : Zone} (hmargin : s.dwell.staleMargin = margin)
    (hz : s.zone zone.toNat = z) : zoneBlock s zone.toNat = zoneBytes zone margin z := by
  have hzone : byteOf zone.toNat = zone := by simp [byteOf]
  simp only [zoneBlock, zoneBytes, hz, hmargin, hzone, boolByte_eq, feedCode, effective]

/-- A zone's entry written in the Dwell Unit. -/
def State.wroteZone (s : State) (n : Nat) (z : Zone) : State :=
  { s with dwell := { s.dwell with zones := s.dwell.zones.putD .reset n z } }

theorem State.zone_wroteZone (s : State) (n : Nat) (z : Zone) : (s.wroteZone n z).zone n = z := by
  simp [State.zone, State.wroteZone]

/-- A request that answers with a zone's block, the zone standing as `z` says. -/
theorem exec_withZone {s u w : State} {c : Instr} {f : Frame} {own : State → State × Answer} {zone : Byte} {r : Result}
    (hexec : exec c s = .next (s.serve c (hostService own))) (ht : s.hostTakes c f u)
    (how : own u = withZone w zone.toNat r) (hmargin : w.dwell.staleMargin = u.dwell.staleMargin) {z : Zone}
    (hz : w.zone zone.toNat = z) : exec c s = .next (w.respond f ⟨r, [zoneBytes zone u.dwell.staleMargin z]⟩) := by
  rw [exec_host hexec ht how, zoneBlock_eq hmargin hz]

/-! ## Zone requests -/

/-- The zone after a ZONE-MODE, by the mode's code: 0 is SENSOR, 1 is MANUAL (R156, R200). -/
theorem Zone.withFeed_eq (z : Zone) {mode : Byte} (hmode : mode.toNat ≤ 1) :
    z.withFeed (decide (mode = 0)) =
      if z.sensor = true ∧ mode = 1 then { z with sensor := false, stale := false }
      else if z.sensor = false ∧ mode = 0 then { z with sensor := true, passes := 0 }
      else z := by
  have hcode : mode = 0 ∨ mode = 1 := by bv_omega
  rcases hcode with rfl | rfl <;> cases hs : z.sensor <;> simp [Zone.withFeed, hs]

/-- Settles O37. Each request refuses its range, then answers with the zone's block: as the zone stood where the feed mode
forbids the change, else as it was written. -/
theorem zoneRequests : Obligations.ZoneRequests := by
  intro s hd zone f u n z body wrote clamp
  refine ⟨fun reading ht => ?sense, fun temperature ht => ?set, fun mode ht => ?mode, fun ht => ?read⟩
  case sense =>
    intro out z1
    split
    · next hrange => exact exec_host (own := zoneSenseRequest zone reading) rfl ht (if_pos hrange)
    next hrange =>
    split
    · next hmanual =>
      refine exec_withZone (own := zoneSenseRequest zone reading) rfl ht ?_ rfl rfl
      exact (if_neg hrange).trans (if_pos (by rw [hmanual]; rfl))
    · next hsensor =>
      have hwrites : zoneSenseRequest zone reading u = withZone (if z.stale then (wrote z1).post .thermal
          (zoneNotice .zoneFresh n (signedByte (clamp reading))) else wrote z1) n .ok :=
        (if_neg hrange).trans (if_neg (by simpa using hsensor))
      refine exec_withZone rfl ht hwrites ?_ ?_
      · split <;> rfl
      · split <;> exact u.zone_wroteZone n z1
  case set =>
    intro out z1
    split
    · next hrange => exact exec_host (own := zoneSetRequest zone temperature) rfl ht (if_pos hrange)
    next hrange =>
    split
    · next hsensor =>
      refine exec_withZone (own := zoneSetRequest zone temperature) rfl ht ?_ rfl rfl
      exact (if_neg hrange).trans (if_pos hsensor)
    · next hmanual =>
      refine exec_withZone (own := zoneSetRequest zone temperature) (w := wrote z1) rfl ht ?_ rfl (u.zone_wroteZone n z1)
      exact (if_neg hrange).trans (if_neg hmanual)
  case mode =>
    intro out z1
    split
    · next hrange => exact exec_host (own := zoneModeRequest zone mode) rfl ht (if_pos hrange)
    · next hrange =>
      refine exec_withZone (own := zoneModeRequest zone mode) (w := wrote z1) rfl ht ?_ rfl (u.zone_wroteZone n z1)
      have hfeed : z.withFeed (decide (mode = 0)) = z1 := Zone.withFeed_eq z (by omega)
      rw [← hfeed]
      exact if_neg hrange
  case read =>
    split
    · next hrange => exact exec_host (own := zoneReadRequest zone) rfl ht (if_pos hrange)
    · next hrange => exact exec_withZone (own := zoneReadRequest zone) rfl ht (if_neg hrange) rfl rfl

/-! ## Class and dwell settings -/

theorem ThermalClass.code_of_ofByte {b : Byte} {tc : ThermalClass} (h : ThermalClass.ofByte b = some tc) : tc.code = b := by
  simp only [ThermalClass.ofByte] at h
  split_ifs at h <;> cases h <;> simp [ThermalClass.code, *]

/-- A byte of at most 2 is the code of a thermal class (R200). -/
theorem ThermalClass.exists_code {b : Byte} (h : b.toNat ≤ 2) : ∃ tc : ThermalClass, tc.code = b := by
  obtain ⟨tc, htc⟩ := Option.ne_none_iff_exists'.1 fun hnone => absurd ((ThermalClass.ofByte_eq_none_iff b).1 hnone) h.not_gt
  exact ⟨tc, ThermalClass.code_of_ofByte htc⟩

/-- The ranges of R160, as CLASS-WRITE refuses what is outside them. -/
theorem classFieldsFit_eq_false_iff (b : ClassBytes) :
    classFieldsFit b = false ↔ b.threshold.toInt < -120 ∨ 120 < b.threshold.toInt ∨ 15 < b.base.toNat ∨ b.budget = 0 ∨
      b.hopLimit = 0 ∨ 15 < b.hopLimit.toNat := by
  have hbudget : b.budget.toNat < 1 ↔ b.budget = 0 := by bv_omega
  have hlimit : b.hopLimit.toNat < 1 ↔ b.hopLimit = 0 := by bv_omega
  simp only [classFieldsFit, Bool.and_eq_false_iff, decide_eq_false_iff_not, not_le, hbudget, hlimit, or_assoc]

theorem classWriteRequest_of_not_fit {cls : Byte} {b : ClassBytes} (h : 2 < cls.toNat ∨ classFieldsFit b = false)
    (s : State) : classWriteRequest cls b s = (s, refuse .badField) := by
  unfold classWriteRequest
  split
  · rfl
  · next c hc =>
    have hfit := h.resolve_left fun hrange => by rw [(ThermalClass.ofByte_eq_none_iff cls).2 hrange] at hc; cases hc
    rw [hfit]
    rfl

theorem classWriteRequest_of_fit {tc : ThermalClass} {b : ClassBytes} (h : classFieldsFit b = true) (s : State) :
    classWriteRequest tc.code b s =
      let w := s.modDwell fun d => d.setParams tc (ClassBytes.params b)
      (w, accept (classBlock w tc)) := by
  simp only [classWriteRequest, ThermalClass.ofByte_code, h]
  rfl

/-- The class block gives back the bytes that a CLASS-WRITE carried (R160). -/
theorem classBlock_of_params {s : State} {tc : ThermalClass} {b : ClassBytes} (h : s.dwell.params tc = ClassBytes.params b) :
    classBlock s tc = [tc.code, b.threshold, b.coefficient, b.base] ++ be16 b.budget ++ [b.hopLimit, b.rescue] := by
  have hrescue : smallField (if b.rescue = 255 then none else some b.rescue.toNat) = b.rescue := by
    split
    · next hnone => rw [hnone]; rfl
    · simp [smallField, byteOf]
  simp only [classBlock, h, ClassBytes.params, hrescue]
  simp [signedByte, byteOf, halfOf]

theorem State.modDwell_setParams (s : State) (tc : ThermalClass) (p : ClassParams) :
    (s.modDwell fun d => d.setParams tc p) =
      { s with
        dwell :=
          { s.dwell with
            ambient := if tc.code = 0 then p else s.dwell.ambient
            chilled := if tc.code = 1 then p else s.dwell.chilled
            frozen := if tc.code = 2 then p else s.dwell.frozen } } := by
  cases tc <;> rfl

/-- The ranges of R162. -/
theorem dwellFieldsFit_iff (p l m : Byte) :
    (1 ≤ p.toNat ∧ p.toNat ≤ 60 ∧ 1 ≤ l.toNat ∧ l.toNat ≤ 15 ∧ m.toNat ≤ 20) ↔
      ¬ (p = 0 ∨ 60 < p.toNat ∨ l = 0 ∨ 15 < l.toNat ∨ 20 < m.toNat) := by
  have hp : p.toNat < 1 ↔ p = 0 := by bv_omega
  have hl : l.toNat < 1 ↔ l = 0 := by bv_omega
  rw [← hp, ← hl]
  omega

/-- Settles O38. The class block of the parameters just written is the bytes that came (`classBlock_of_params`); the ranges
are those that `classFieldsFit` and DWELL-SET test. -/
theorem classAndDwellSettings : Obligations.ClassAndDwellSettings := by
  intro s hd f u
  refine ⟨fun cls b ht => ?write, fun cls ht => ⟨fun hrange => ?refused, fun tc hcode => ?read⟩, fun p l m ht => ?dwell⟩
  case write =>
    intro out
    have hunfit := classFieldsFit_eq_false_iff b
    split
    · next hbad =>
      exact exec_host (own := classWriteRequest cls b) rfl ht (classWriteRequest_of_not_fit (hbad.imp_right hunfit.2) u)
    · next hgood =>
      obtain ⟨hrange, hgood⟩ := not_or.1 hgood
      have hfit := Bool.eq_true_of_not_eq_false fun h => hgood (hunfit.1 h)
      obtain ⟨tc, rfl⟩ := ThermalClass.exists_code (not_lt.1 hrange)
      have hparams : (u.modDwell fun d => d.setParams tc (ClassBytes.params b)).dwell.params tc = ClassBytes.params b := by
        simp [DwellUnit.params_setParams]
      have hexec := exec_host (own := classWriteRequest tc.code b) rfl ht
        (classWriteRequest_of_fit hfit u)
      rwa [classBlock_of_params hparams, State.modDwell_setParams] at hexec
  case refused =>
    refine exec_host (own := classReadRequest cls) rfl ht ?_
    simp only [classReadRequest, (ThermalClass.ofByte_eq_none_iff cls).2 hrange]
    rfl
  case read =>
    subst hcode
    refine exec_host (own := classReadRequest tc.code) rfl ht ?_
    simp only [classReadRequest, ThermalClass.ofByte_code]
    rfl
  case dwell =>
    intro out
    split
    · next hbad =>
      exact exec_host (own := dwellSetRequest p l m) rfl ht (if_neg fun hgood => (dwellFieldsFit_iff p l m).1 hgood hbad)
    · next hgood =>
      refine exec_host (own := dwellSetRequest p l m) rfl ht ((if_pos ((dwellFieldsFit_iff p l m).2 hgood)).trans ?_)
      dsimp only
      split <;> rfl

/-! ## MODE -/

/-- Settles O49. A request is out of range, for RUN or for SETUP; each of the last two is refused in its own mode, and SETUP
on a table that is not empty. -/
theorem modeRequestSetsMode : Obligations.ModeRequestSetsMode := by
  intro s hd m f u ht out
  have hout : ∀ {t r body}, modeRequest m u = (t, ⟨r, [body]⟩) → out t r body := fun h =>
    exec_host (own := modeRequest m) rfl ht h
  obtain ⟨-, -, hflushing⟩ := ht
  have hcode : 1 < m.toNat ∨ m = 1 ∨ m = 0 := by bv_omega
  rcases hcode with hrange | rfl | rfl
  · have h1 : m ≠ 1 := by bv_omega
    have h0 : m ≠ 0 := by bv_omega
    rw [if_pos hrange]
    exact hout (by rw [modeRequest, if_neg h1, if_neg h0]; rfl)
  · rw [if_neg (by decide)]
    by_cases hrun : u.engine.mode = .run
    · rw [if_pos (.inl ⟨rfl, hrun⟩)]
      exact hout (by rw [modeRequest, if_pos rfl, if_pos hrun, hrun]; rfl)
    · rw [if_neg (by simp [hrun]), if_pos rfl]
      exact hout (by rw [modeRequest, if_pos rfl, if_neg hrun]; rfl)
  · rw [if_neg (by decide)]
    by_cases hsetup : u.engine.mode = .setup
    · rw [if_pos (.inr ⟨rfl, hsetup⟩)]
      exact hout (by rw [modeRequest, if_neg (by decide), if_pos rfl, if_pos hsetup, hsetup]; rfl)
    · have hrun : u.engine.mode = .run := by
        cases hmode : u.engine.mode with
        | setup => exact absurd hmode hsetup
        | run => rfl
        | flushing => exact absurd hmode hflushing
      rw [if_neg (by simp [hsetup]), if_neg (by decide)]
      split
      · next hlive =>
        exact hout (by rw [modeRequest, if_neg (by decide), if_pos rfl, if_neg hsetup, if_pos hlive, hrun]; rfl)
      · next hempty =>
        exact hout (by rw [modeRequest, if_neg (by decide), if_pos rfl, if_neg hsetup, if_neg hempty]; rfl)

end Sys2Proof.Machine
end

section
/-! SUPPORT. The start of an accrual pass, the expiry of the period timer, and the visit of a slot. -/

namespace Sys2Proof.Machine

/-! ## The start of a pass -/

/-- Zones written one after the other, from values taken before, are the only change. -/
theorem State.foldl_putZone_eq (g : Nat → Zone) (l : List Nat) (s : State) :
    l.foldl (fun t n => t.putZone n (g n)) s =
      s.modDwell fun d => { d with zones := l.foldl (fun t n => t.putD .reset n (g n)) d.zones } := by
  induction l generalizing s with
  | nil => rfl
  | cons n l ih => rw [List.foldl_cons, ih]; rfl

theorem Table.lookD_foldl_putD (g : Nat → Zone) (l : List Nat) (t : Table Zone) (n : Nat) :
    (l.foldl (fun t n => t.putD .reset n (g n)) t).lookD .reset n = if n ∈ l then g n else t.lookD .reset n := by
  induction l generalizing t with
  | nil => simp
  | cons m l ih =>
    rw [List.foldl_cons, ih, Table.lookD_putD]
    by_cases hm : n = m <;> by_cases hl : n ∈ l <;> simp [hm, hl]

/-- Notices posted one after the other to a queue change the Notice Unit alone, by the clock. -/
theorem State.foldl_post_eq (note : Nat → Notice) (l : List Nat) (s : State) :
    l.foldl (fun t n => t.post .thermal (note n)) s =
      s.modNotices fun u => l.foldl (fun u n => u.modQueue .thermal fun q => q.post { note n with time := s.timer.clock }) u := by
  induction l generalizing s with
  | nil => rfl
  | cons n l ih => rw [List.foldl_cons, ih]; rfl

theorem turnsStale_iff (limit : Nat) (z : Zone) :
    turnsStale limit z = true ↔ z.sensor = true ∧ z.stale = false ∧ limit ≤ z.counted := by
  have hcounted : agedPasses z = z.counted := rfl
  simp only [turnsStale, hcounted, Bool.and_eq_true, decide_eq_true_eq, Bool.not_eq_true', and_assoc]
  tauto

/-- A pass begins as R158, R164 and R165 say, its ZONE_STALE notices in the order the model draws (log 10). -/
theorem State.passStarted_beginPass (s : State) : s.passStarted s.beginPass := by
  unfold State.beginPass State.ageZones
  dsimp only
  rw [State.foldl_post_eq, State.foldl_putZone_eq]
  refine ⟨rfl, fun n => ?_, s.newlyStale, s.newlyStale_nodup, fun n => ?_, ?_⟩
  · refine (Table.lookD_foldl_putD _ _ _ _).trans ?_
    have hn : n ∈ zoneNumbers ↔ n < 16 := List.mem_range
    by_cases hlt : n < 16
    · simp only [hn, hlt, if_true, true_and]
      rfl
    · simp only [hn, hlt, if_false, false_and]
      rfl
  · rw [State.mem_newlyStale, turnsStale_iff]
  · rw [State.foldl_post_eq]
    rfl

/-- Settles O43. The timer's restart comes first; then a pass starts as `State.passStarted_beginPass` says, or is left
pending. -/
theorem accrualPeriodExpiryStartsPass : Obligations.AccrualPeriodExpiryStartsPass := by
  intro s v
  have hexpiry : exec .accrualPeriodExpiry s = .next s.periodExpiry := rfl
  rw [hexpiry, State.periodExpiry]
  refine ⟨fun htimer => ?idle, fun htimer hcursor => ?pending, fun htimer hcursor => ?starts⟩
  case idle => rw [if_neg htimer]
  case pending => rw [if_pos htimer, if_pos (Option.isSome_iff_ne_none.2 hcursor)]; rfl
  case starts =>
    rw [if_pos htimer, hcursor]
    exact ⟨_, rfl, v.passStarted_beginPass⟩

/-! ## The visit of a slot -/

/-- The accrual of a visit, with the excess of the zone's effective temperature written out (R168, R169). -/
theorem State.accrualOf_eq (s : State) (r : Record) :
    s.accrualOf r =
      let p := s.dwell.params r.cls
      let z := s.zone r.presentZone
      let excess : Int := min 120 (if z.stale then z.temperature + s.dwell.staleMargin else z.temperature) - p.threshold
      if r.exempt = true ∨ excess ≤ 0 then 0 else min 4095 (p.base + p.coefficient * excess.toNat ^ 2 / 64) := by
  simp only [sq]
  rfl

/-- A flag that a visit turns on was off and its threshold is reached. -/
theorem turnsOn_iff (flag : Bool) (c : Prop) [Decidable c] : ((flag || decide c) && !flag) = true ↔ flag = false ∧ c := by
  cases flag <;> simp

theorem State.visit_of_free {s : State} {slot : Nat} (hfree : s.engine.records.look slot = none) : s.visit slot = s := by
  simp only [State.visit, hfree]

/-- The whole of what the visit of a live record writes, by the amount that accrues (R169 to R171). -/
theorem State.visit_of_live {s : State} {slot a x : Nat} {r : Record} (hlive : s.engine.records.look slot = some r)
    (ha : s.accrualOf r = a) (hx : min 65535 (r.exposure + a) = x) :
    s.visit slot =
      let warns := r.warned = false ∧ r.budget * 3 / 4 ≤ x
      let passes := r.overdue = false ∧ r.budget ≤ x
      let s1 := if 0 < a then s.countEvent .accrual r.presentZone a else s
      let s2 := if warns then s1.post .thermal (dwellNotice .dwellWarn (s.handleOf slot) r) else s1
      let s3 := if passes then s2.post .thermal (dwellNotice .dwellOverdue (s.handleOf slot) r) else s2
      { s3 with
        engine :=
          { s.engine with
            records := s.engine.records.put slot
              { r with
                exposure := x
                warned := r.warned || decide (r.budget * 3 / 4 ≤ x)
                overdue := r.overdue || decide (r.budget ≤ x) }
            overdues := if passes then s.engine.overdues ++ [s.handleOf slot] else s.engine.overdues } } := by
  subst ha hx
  simp only [State.visit, hlive, Record.accrued, turnsOn_iff]
  split <;> split <;> split <;> rfl

/-! ## The end of a visit -/

/-- The pass in flight has ended, and none is pending (R164, R165). -/
def State.passEnded (s : State) : State :=
  s.modDwell fun d => { d with cursor := none, passes := d.passes + 1, passPending := false }

theorem State.endPass_of_pending {s : State} (h : s.dwell.passPending = true) : s.endPass = s.passEnded.beginPass := by
  rw [State.endPass, if_pos h]
  rfl

theorem State.endPass_of_not_pending {s : State} (h : ¬ s.dwell.passPending = true) : s.endPass = s.passEnded := by
  rw [State.endPass, if_neg h, State.passEnded]
  simp only [State.modDwell, Bool.eq_false_of_not_eq_true h]

theorem State.accrualStep_of_next {s : State} {slot : Nat} (hcursor : s.dwell.cursor = some slot) (hslot : slot < 2047) :
    s.accrualStep = (s.visit slot).modDwell fun d => { d with cursor := some (slot + 1) } := by
  simp only [State.accrualStep, hcursor]
  exact if_pos (Nat.add_lt_add_right hslot 1)

theorem State.accrualStep_of_last {s : State} {slot : Nat} (hcursor : s.dwell.cursor = some slot) (hslot : slot = 2047) :
    s.accrualStep = (s.visit slot).endPass := by
  simp only [State.accrualStep, hcursor]
  exact if_neg (by rw [hslot]; decide)

/-- Settles O42. The visit is the state `v` asked for; it leaves the Dwell Unit, so that the cursor moves, or the pass ends,
from the unit as it was. -/
theorem accrualVisitOfASlot : Obligations.AccrualVisitOfASlot := by
  intro s
  have hexec : exec .accrualVisit s = .next s.accrualStep := rfl
  rw [hexec]
  refine ⟨fun hidle => by rw [State.accrualStep, hidle], fun slot hcursor =>
    ⟨s.visit slot, State.visit_of_free, fun r hlive => State.visit_of_live hlive (s.accrualOf_eq r) rfl,
      fun hslot => ?next, fun hslot => ?last⟩⟩
  all_goals have hdwell : (s.visit slot).dwell = s.dwell := (s.steady_visit slot).dwell
  case next =>
    rw [State.accrualStep_of_next hcursor hslot, ← hdwell]
    rfl
  case last =>
    rw [State.accrualStep_of_last hcursor hslot, ← hdwell]
    intro e
    split
    · next hpending =>
      rw [State.endPass_of_pending hpending]
      exact ⟨_, rfl, State.passStarted_beginPass e⟩
    · next hpending =>
      rw [State.endPass_of_not_pending hpending]
      rfl

end Sys2Proof.Machine
end

section
/-! SUPPORT. The Policy Matcher: which rule an evaluation takes and what it does to it, and the requests that write and read
the rules and their hit flags. -/

namespace Sys2Proof.Machine

/-! ## The rule an evaluation takes -/

/-- Searching a table in canonical form from its head finds the entry of the least number whose value passes. -/
theorem Table.find?_eq_some_iff {α : Type} {t : Table α} (h : t.wf = true) (test : α → Bool) (n : Nat) (v : α) :
    t.find? (fun p => test p.2) = some (n, v) ↔
      t.look n = some v ∧ test v = true ∧ ∀ m w, m < n → t.look m = some w → ¬ test w = true := by
  simp only [Table.look_eq_some_iff t h]
  rw [Table.wf_iff] at h
  induction t with
  | nil => simp
  | cons p t ih =>
    obtain ⟨k, w⟩ := p
    obtain ⟨hleast, hrest⟩ := List.pairwise_cons.1 h
    have hafter : ∀ m x, (m, x) ∈ t → k < m := fun m x hx => hleast m (List.mem_map_of_mem (f := Prod.fst) hx)
    rw [List.find?_cons]
    cases hw : test w with
    | true =>
      rw [Option.some_inj]
      constructor
      · rintro ⟨⟩
        refine ⟨List.mem_cons_self, hw, fun m x hm hx => ?_⟩
        rcases List.mem_cons.1 hx with hx | hx
        · exact absurd (congrArg Prod.fst hx) hm.ne
        · exact absurd hm (hafter m x hx).not_gt
      · rintro ⟨hmem, -, hfirst⟩
        rcases List.mem_cons.1 hmem with hmem | hmem
        · exact hmem.symm
        · exact absurd hw (hfirst k w (hafter n v hmem) List.mem_cons_self)
    | false =>
      rw [ih hrest]
      have hne : ∀ m x, test x = true → (m, x) ≠ (k, w) := by
        rintro m x hx ⟨⟩
        rw [hw] at hx
        cases hx
      constructor
      · rintro ⟨hmem, hv, hfirst⟩
        refine ⟨List.mem_cons_of_mem _ hmem, hv, fun m x hm hx ht => ?_⟩
        exact hfirst m x hm ((List.mem_cons.1 hx).resolve_left (hne m x ht)) ht
      · rintro ⟨hmem, hv, hfirst⟩
        exact ⟨(List.mem_cons.1 hmem).resolve_left (hne n v hv), hv,
          fun m x hm hx => hfirst m x hm (List.mem_cons_of_mem _ hx)⟩

theorem Table.find?_eq_none_iff {α : Type} {t : Table α} (h : t.wf = true) (test : α → Bool) :
    t.find? (fun p => test p.2) = none ↔ ∀ n v, t.look n = some v → ¬ test v = true := by
  simp only [Table.look_eq_some_iff t h, List.find?_eq_none, Prod.forall]

/-- Field and key are equal in every cared bit (R176). -/
def fieldAgrees (m : MatchField) (key : Byte) : Prop :=
  ∀ b, b < 8 → m.care.getLsbD b = true → m.value.getLsbD b = key.getLsbD b

theorem fieldMatches_iff (m : MatchField) (key : Byte) : fieldMatches m key = true ↔ fieldAgrees m key := by
  rw [fieldMatches, beq_iff_eq, fieldAgrees]
  constructor
  · intro h b _ hcare
    simpa [hcare] using congrArg (BitVec.getLsbD · b) h
  · refine fun h => BitVec.eq_of_getLsbD_eq fun b hb => ?_
    cases hcare : m.care.getLsbD b with
    | true => simp [hcare, h b hb hcare]
    | false => simp [hcare]

/-- A rule that an evaluation may take: it is valid and its nine fields agree with the key (R176, R179). -/
def Rule.Hits (k : Key) (r : Rule) : Prop :=
  r.valid = true ∧ fieldAgrees r.fields.point k.point ∧ fieldAgrees r.fields.cls k.cls ∧
    fieldAgrees r.fields.priority k.priority ∧ fieldAgrees r.fields.originZone k.originZone ∧
    fieldAgrees r.fields.targetZone k.targetZone ∧ fieldAgrees r.fields.planned k.planned ∧
    fieldAgrees r.fields.overdue k.overdue ∧ fieldAgrees r.fields.hops k.hops ∧ fieldAgrees r.fields.wave k.wave

theorem Rule.hits_iff (k : Key) (r : Rule) : (r.valid && fieldsMatch r.fields k) = true ↔ r.Hits k := by
  simp only [fieldsMatch, Rule.Hits, Bool.and_eq_true, fieldMatches_iff, and_assoc]

theorem State.matchRule_eq_some_iff {s : State} (h : s.rules.wf = true) (k : Key) (i : Nat) (r : Rule) :
    s.matchRule k = some (i, r) ↔
      s.rules.look i = some r ∧ r.Hits k ∧ ∀ j r', j < i → s.rules.look j = some r' → ¬ r'.Hits k := by
  simp only [← Rule.hits_iff]
  exact Table.find?_eq_some_iff h (fun r => r.valid && fieldsMatch r.fields k) i r

theorem State.matchRule_eq_none_iff {s : State} (h : s.rules.wf = true) (k : Key) :
    s.matchRule k = none ↔ ∀ j r, s.rules.look j = some r → ¬ r.Hits k := by
  simp only [← Rule.hits_iff]
  exact Table.find?_eq_none_iff h fun r => r.valid && fieldsMatch r.fields k

/-! ## What an evaluation does to the rule it takes -/

/-- A rule after an evaluation has taken it (R183, R184). -/
def Rule.taken (r : Rule) : Rule := { r with hit := true, notifyOnce := r.notifyOnce && r.notifyAlways }

/-- A rule just taken is listed: its hit flag tells it from a rule at reset. -/
theorem State.putRule_taken (s : State) (i : Nat) (r : Rule) :
    s.putRule i r.taken = s.modRules fun t => t.put i r.taken := by
  have hne : r.taken ≠ .reset := fun h => Bool.noConfusion (congrArg Rule.hit h)
  simp only [State.putRule, Table.putD, if_neg hne]

/-- All that an evaluation which took rule `i` does (R183, R184). -/
theorem State.takeRule_some (s : State) (i : Nat) (r : Rule) (notice : Byte → Notice) (denied : Bool) :
    s.takeRule (some (i, r)) notice denied =
      { s with
        rules := s.rules.put i r.taken
        notices :=
          if r.notifyAlways = true ∨ r.notifyOnce = true then (s.post .rule (notice (matchDetail i denied))).notices
          else s.notices } := by
  have htaken : s.takeRule (some (i, r)) notice denied =
      if r.notifyAlways || r.notifyOnce then (s.putRule i r.taken).post .rule (notice (matchDetail i denied))
      else s.putRule i r.taken := rfl
  simp only [htaken, State.putRule_taken, Bool.or_eq_true]
  split <;> rfl

/-- Settles O13. The tables are searched in rising order of their numbers, so that the first match is the least one. -/
theorem policyEvaluation : Obligations.PolicyEvaluation := by
  refine ⟨fun s k i r hwf => ⟨s.matchRule_eq_some_iff hwf k i r, s.matchRule_eq_none_iff hwf k⟩,
    fun s notice denied => ⟨rfl, fun i r _ _ => ?_⟩⟩
  rw [State.takeRule_some]
  exact ⟨rfl, Table.look_put_self _ _ _, fun m hm => (Table.look_put_ne _ _ hm).symm, rfl⟩

/-! ## The block of a rule -/

theorem ruleBlock_eq {s : State} {index : Byte} {r : Rule} (hr : s.rule index.toNat = r) :
    ruleBlock s index.toNat = ruleBytes index r := by
  have hindex : byteOf index.toNat = index := by simp [byteOf]
  simp only [ruleBlock, hr, hindex, boolByte_eq]
  rfl

@[simp] theorem State.rule_putRule (s : State) (n m : Nat) (r : Rule) :
    (s.putRule n r).rule m = if m = n then r else s.rule m :=
  Table.lookD_putD _ _ _ _ _

/-! ## RULE-WRITE and RULE-READ -/

/-- A byte names a budget scale exactly when it is 0 to 3 (R200). -/
theorem Scale.ofByte_eq_none_iff (b : Byte) : Scale.ofByte b = none ↔ 3 < b.toNat := by
  unfold Scale.ofByte
  split_ifs with h0 h1 h2 h3
  · simp [h0]
  · simp [h1]
  · simp [h2]
  · simp [h3]
  · simp only [true_iff]
    bv_omega

theorem Scale.ofByte_code (x : Scale) : Scale.ofByte x.code = some x := by cases x <;> rfl

/-- The width check of R176 for a match field. -/
def fieldFits (w : Nat) (m : MatchField) : Prop := m.value.toNat < 2 ^ w ∧ m.care.toNat < 2 ^ w

/-- RULE-WRITE's checks, the scale's code among them (R185). -/
def ruleBytesFit (b : RuleBytes) : Prop :=
  b.index.toNat ≤ 63 ∧ fieldsFit b.fields = true ∧ b.scale.toNat ≤ 3 ∧ b.floor.toNat ≤ 3 ∧
    (flagAt b.actions 1 = true → b.overrideMask ≠ 0)

theorem fits_iff (w : Nat) (m : MatchField) : fits w m = true ↔ fieldFits w m := by
  simp only [fits, fieldFits, Bool.and_eq_true, decide_eq_true_eq]

theorem fieldsFit_iff (f : MatchFields) :
    fieldsFit f = true ↔
      fieldFits 1 f.point ∧ fieldFits 2 f.cls ∧ fieldFits 2 f.priority ∧ fieldFits 4 f.originZone ∧
        fieldFits 4 f.targetZone ∧ fieldFits 1 f.planned ∧ fieldFits 1 f.overdue ∧ fieldFits 4 f.hops ∧
        fieldFits 8 f.wave := by
  simp only [fieldsFit, Bool.and_eq_true, fits_iff, and_assoc]

/-- The rule that a RULE-WRITE body gives, with the hit flag that is kept (R185, log 12). -/
def ruleOf (b : RuleBytes) (scale : Scale) (hit : Bool) : Rule :=
  { valid := flagAt b.valid 0
    fields := b.fields
    deny := flagAt b.actions 0
    overrides := flagAt b.actions 1
    overrideMask := b.overrideMask
    notifyAlways := flagAt b.actions 2
    notifyOnce := flagAt b.actions 3
    exempt := flagAt b.actions 4
    scale := scale
    floor := b.floor.toNat
    hit := hit }

theorem ruleWriteRequest_of_not_fit {b : RuleBytes} (h : ¬ ruleBytesFit b) (s : State) :
    ruleWriteRequest b s = (s, refuse .badField) := by
  unfold ruleWriteRequest
  split
  · rfl
  · next scale hscale =>
    have hcode : b.scale.toNat ≤ 3 := not_lt.1 fun hrange => by
      rw [(Scale.ofByte_eq_none_iff _).2 hrange] at hscale
      cases hscale
    exact if_neg fun ⟨hindex, hfields, hfloor, hover⟩ => h ⟨hindex, hfields, hcode, hfloor, hover⟩

theorem ruleWriteRequest_of_fit {b : RuleBytes} (h : ruleBytesFit b) {scale : Scale} (hscale : scale.code = b.scale)
    (s : State) :
    ruleWriteRequest b s =
      let w := s.putRule b.index.toNat (ruleOf b scale (s.rule b.index.toNat).hit)
      (w, accept (ruleBlock w b.index.toNat)) := by
  obtain ⟨hindex, hfields, -, hfloor, hover⟩ := h
  simp only [ruleWriteRequest, ← hscale, Scale.ofByte_code]
  exact if_pos ⟨hindex, hfields, hfloor, hover⟩

/-- Settles O39. RULE-WRITE refuses what does not fit; past that check, and RULE-READ past its range, the answer is the block
of the rule as it then stands. -/
theorem ruleWriteAndRead : Obligations.RuleWriteAndRead := by
  intro s hd f u
  refine ⟨fun b ht => ?write, fun index ht => ?read⟩
  case write =>
    intro n out fit good
    have hgood : good ↔ ruleBytesFit b := by
      simp only [ruleBytesFit, fieldsFit_iff, and_assoc]
      rfl
    refine ⟨fun hbad => ?_, fun hfits scale hscale => ?_⟩
    · exact exec_host (own := ruleWriteRequest b) rfl ht (ruleWriteRequest_of_not_fit (hbad ∘ hgood.2) u)
    · have hexec := exec_host (own := ruleWriteRequest b) rfl ht (ruleWriteRequest_of_fit (hgood.1 hfits) hscale u)
      rwa [ruleBlock_eq (u.rule_putRule _ _ _), if_pos rfl] at hexec
  case read =>
    split
    · next hrange => exact exec_host (own := ruleReadRequest index) rfl ht (if_neg hrange.not_ge)
    · next hrange =>
      rw [← ruleBlock_eq rfl]
      exact exec_host (own := ruleReadRequest index) rfl ht (if_pos (not_lt.1 hrange))

/-! ## RULE-HITS -/

/-- A set gathered number by number holds what it held before, and the numbers of the list that pass. -/
theorem getLsbD_foldl_or (test : Nat → Bool) (l : List Nat) (acc : Quad) {i : Nat} (hi : i < 64) :
    (l.foldl (fun acc j => if test j then acc ||| (1#64 <<< j) else acc) acc).getLsbD i =
      (acc.getLsbD i || (decide (i ∈ l) && test i)) := by
  induction l generalizing acc with
  | nil => simp
  | cons j l ih =>
    have hbit : (1#64 <<< j).getLsbD i = decide (i = j) := by
      rw [← BitVec.twoPow_eq, BitVec.getLsbD_twoPow]
      rcases eq_or_ne i j with rfl | hj
      · simp [hi]
      · simp [hj, hj.symm]
    rw [List.foldl_cons, ih]
    by_cases hj : i = j
    · subst hj
      cases test i <;> simp [hbit]
    · cases test j <;> simp [hbit, hj]

theorem State.getLsbD_hitSet (s : State) {i : Nat} (hi : i < 64) : s.hitSet.getLsbD i = (s.rule i).hit := by
  rw [State.hitSet, getLsbD_foldl_or (fun i => (s.rule i).hit) _ _ hi]
  simp [hi]

/-- A rule with its hit flag cleared (R187). -/
def Rule.unhit (r : Rule) : Rule := { r with hit := false }

@[simp] theorem Rule.unhit_unhit (r : Rule) : r.unhit.unhit = r.unhit := rfl

/-- One rule's hit flag cleared when the set names the rule (R187). -/
def State.clearHit (clear : Quad) (s : State) (i : Nat) : State :=
  if clear.getLsbD i then s.putRule i (s.rule i).unhit else s

theorem ruleHitsRequest_eq (clear : Quad) (s : State) :
    ruleHitsRequest clear s = ((List.range 64).foldl (State.clearHit clear) s, accept (be64 s.hitSet)) := rfl

theorem State.rule_clearHit (clear : Quad) (s : State) (i n : Nat) :
    (s.clearHit clear i).rule n = if n = i ∧ clear.getLsbD n = true then (s.rule n).unhit else s.rule n := by
  unfold State.clearHit
  by_cases hn : n = i
  · subst hn
    split <;> simp [*]
  · split <;> simp [hn]

theorem State.rule_foldl_clearHit (clear : Quad) (l : List Nat) (s : State) (n : Nat) :
    (l.foldl (State.clearHit clear) s).rule n =
      if n ∈ l ∧ clear.getLsbD n = true then (s.rule n).unhit else s.rule n := by
  induction l generalizing s with
  | nil => simp
  | cons i l ih =>
    rw [List.foldl_cons, ih, State.rule_clearHit]
    by_cases hc : clear.getLsbD n = true
    · rcases eq_or_ne n i with rfl | hi
      · simp [hc]
      · simp [hi]
    · simp [hc]

/-- Hit flags are cleared in the rules alone. -/
theorem State.foldl_clearHit_eq (clear : Quad) (l : List Nat) (s : State) :
    ∃ rules, l.foldl (State.clearHit clear) s = { s with rules := rules } := by
  induction l generalizing s with
  | nil => exact ⟨_, rfl⟩
  | cons i l ih =>
    obtain ⟨rules, hrest⟩ := ih (s.clearHit clear i)
    refine ⟨rules, hrest.trans ?_⟩
    unfold State.clearHit
    split <;> rfl

/-- Settles O40. The flags answered are those of the state in which the request is served, before the clearing. -/
theorem ruleHitsReadsThenClears : Obligations.RuleHitsReadsThenClears := by
  intro s hd clear f u ht
  refine ⟨(List.range 64).foldl (State.clearHit clear) u, u.hitSet, ?reply, fun i => u.getLsbD_hitSet,
    ?frame, fun i => ?rules⟩
  case reply => exact exec_host rfl ht (ruleHitsRequest_eq clear u)
  case frame =>
    obtain ⟨rules, h⟩ := u.foldl_clearHit_eq clear (List.range 64)
    rw [h]
  case rules =>
    simp only [State.rule_foldl_clearHit, List.mem_range]
    rfl

end Sys2Proof.Machine
end

section
/-! SUPPORT. The rotation over the input queues. -/

namespace Sys2Proof.Machine

/-! ## The rotation -/

/-- Nothing waits at any port, so the engine has no port to serve. -/
theorem PortUnit.nextPort_of_empty {p : PortUnit} (h : ∀ q, p.queue q = []) : p.nextPort = none := by
  simp [PortUnit.nextPort, h]

/-- A port is the first from the pointer on whose queue is not empty (R193). -/
def PortUnit.Turn (p : PortUnit) (q : Port) : Prop :=
  p.pointer = q ∨ (portAfter p.pointer = q ∧ p.queue p.pointer = []) ∨
    (portAfter (portAfter p.pointer) = q ∧ p.queue p.pointer = [] ∧ p.queue (portAfter p.pointer) = [])

theorem PortUnit.nextPort_of_turn {p : PortUnit} {q : Port} (hturn : p.Turn q) (hwaits : p.queue q ≠ []) :
    p.nextPort = some q := by
  unfold PortUnit.nextPort
  rcases hturn with rfl | ⟨rfl, hfirst⟩ | ⟨rfl, hfirst, hsecond⟩
  · simp [hwaits]
  · simp [hwaits, hfirst]
  · simp [hwaits, hfirst, hsecond]

/-- Wherever the pointer stands, a port that alone has a request waiting has its turn. -/
theorem PortUnit.turn_of_alone {p : PortUnit} {q : Port} (h : ∀ q', q' ≠ q → p.queue q' = []) : p.Turn q := by
  by_cases hfirst : p.pointer = q
  · exact .inl hfirst
  by_cases hsecond : portAfter p.pointer = q
  · exact .inr (.inl ⟨hsecond, h _ hfirst⟩)
  · refine .inr (.inr ⟨?_, h _ hfirst, h _ hsecond⟩)
    revert hfirst hsecond
    rcases p.pointer with (_ | _) | _ <;> rcases q with (_ | _) | _ <;> simp [portAfter]

theorem PortUnit.nextRequest_of_turn {p : PortUnit} {q : Port} {f : Frame} {rest : List Frame} (hturn : p.Turn q)
    (hqueue : p.queue q = f :: rest) : p.nextRequest = some f := by
  have hport := PortUnit.nextPort_of_turn hturn (by simp [hqueue])
  simp [PortUnit.nextRequest, hport, hqueue]

theorem PortUnit.take_of_turn {p : PortUnit} {q : Port} {f : Frame} {rest : List Frame} (hturn : p.Turn q)
    (hqueue : p.queue q = f :: rest) : p.take = { p.setQueue q rest with pointer := portAfter q } := by
  have hport := PortUnit.nextPort_of_turn hturn (by simp [hqueue])
  simp only [PortUnit.take, hport, hqueue, List.tail_cons]

/-- The input queues do not depend on the pointer. -/
theorem PortUnit.queue_pointer (p : PortUnit) (port q : Port) : ({ p with pointer := port } : PortUnit).queue q = p.queue q := by
  rcases q with (_ | _) | _ <;> rfl

/-- Settles O7. -/
theorem rotationTakesTheNextRequest : Obligations.RotationTakesTheNextRequest := by
  refine fun p => ⟨fun hempty => ?_, fun q f rest hqueue hturn => ?_⟩
  · have hnone := PortUnit.nextPort_of_empty hempty
    exact ⟨by simp only [PortUnit.nextRequest, hnone, Option.bind_none], by simp only [PortUnit.take, hnone]⟩
  · have htake := PortUnit.take_of_turn hturn hqueue
    have hqueues : ∀ q', p.take.queue q' = if q' = q then rest else p.queue q' := fun q' => by
      rw [htake, PortUnit.queue_pointer, PortUnit.queue_setQueue]
    exact ⟨PortUnit.nextRequest_of_turn hturn hqueue, htake, (hqueues q).trans (if_pos rfl),
      fun q' hq' => (hqueues q').trans (if_neg hq')⟩

end Sys2Proof.Machine
end

section
/-! SUPPORT. Frames on the wire: the bytes of a frame read back, what a good run of bytes is, and the body tables. -/

namespace Sys2Proof

/-! ## Good frames -/

theorem length_be16 (x : Half) : (be16 x).length = 2 := rfl

theorem Frame.length_checked (f : Frame) : f.checked.length = 8 + f.body.length := by
  simp only [Frame.checked, be16, List.length_append, List.length_cons, List.length_nil]

theorem Frame.length_bytes (f : Frame) : f.bytes.length = 10 + f.body.length := by
  rw [Frame.bytes, List.length_append, Frame.length_checked, length_be16]
  omega

/-- A frame whose body length fits its field is read back from its bytes (R189). -/
theorem goodFrame_bytes {f : Frame} (h : f.body.length < 2 ^ 16) : goodFrame f.port f.bytes = some f := by
  have hn : (halfOf f.body.length).toNat = f.body.length := Nat.mod_eq_of_lt h
  have hlength := f.length_bytes
  have hchecked : f.bytes.take (8 + f.body.length) = f.checked := by
    rw [← f.length_checked, Frame.bytes, List.take_left]
  have hbytes : f.bytes = f.kind :: f.flags :: f.tag.extractLsb' 8 8 :: f.tag.extractLsb' 0 8 ::
      f.robot.extractLsb' 8 8 :: f.robot.extractLsb' 0 8 :: (halfOf f.body.length).extractLsb' 8 8 ::
      (halfOf f.body.length).extractLsb' 0 8 :: (f.body ++ be16 (crc f.checked)) := by
    simp [Frame.bytes, Frame.checked, be16]
  rw [hbytes] at hlength hchecked ⊢
  simp only [goodFrame, half_of_be16, hn, hchecked, hlength, List.take_left, List.drop_left, and_self, if_true]

/-- What a good run of bytes is: long enough, of the length it names, and with an agreeing check (R189). -/
theorem of_goodFrame {port : Port} {bytes : List Byte} {f : Frame} (h : goodFrame port bytes = some f) :
    f.port = port ∧ 10 ≤ bytes.length ∧
      bytes.length = 10 + (half (bytes.getD 6 0) (bytes.getD 7 0)).toNat ∧
      bytes.drop (bytes.length - 2) = be16 (crc (bytes.take (bytes.length - 2))) := by
  unfold goodFrame at h
  split at h
  · next kind flags t1 t0 r1 r0 n1 n0 rest =>
    obtain ⟨⟨hlength, hcheck⟩, hf⟩ := Option.ite_none_right_eq_some.1 h
    cases hf
    have hbody : (kind :: flags :: t1 :: t0 :: r1 :: r0 :: n1 :: n0 :: rest).length - 2 = 8 + (half n1 n0).toNat := by omega
    refine ⟨rfl, by omega, hlength, ?_⟩
    rw [hbody, ← hcheck, Nat.add_comm]
    simp only [List.drop_succ_cons]
  · cases h

/-! ## The body tables -/

/-- No request body is longer than 24 bytes, the rule block of RULE-WRITE (R203). -/
theorem length_le_of_bodyFits {k n : Nat} (h : bodyFits k n = true) : n ≤ 24 := by
  unfold bodyFits at h
  -- The 29th kind is PLAN-WRITE, whose lengths are a range; the 51st case is a kind that is no request.
  split at h
  case h_29 =>
    simp only [Bool.and_eq_true, decide_eq_true_eq] at h
    omega
  case h_51 => cases h
  all_goals exact (beq_iff_eq.1 h).trans_le (by decide)

theorem bodyFits_of_allowed : ∀ p ∈ Machine.allowedLengths, ∀ n ∈ p.2, bodyFits p.1 n = true := by decide

theorem planLength_allowed : ∀ n < 25, bodyFits 0x31 n = true → Machine.lengthAllowed 0x31 n = true := by decide

/-- The port allows a request's body the lengths that the body tables list, and no other (R191, R203). -/
theorem lengthAllowed_eq_bodyFits (k n : Nat) : Machine.lengthAllowed k n = bodyFits k n := by
  rw [Bool.eq_iff_iff]
  constructor
  · intro h
    obtain ⟨p, hp, hallowed⟩ := List.any_eq_true.1 h
    obtain ⟨hkind, hlength⟩ := Bool.and_eq_true_iff.1 hallowed
    rw [← beq_iff_eq.1 hkind]
    exact bodyFits_of_allowed p hp n (by simpa using hlength)
  · intro h
    have hn := length_le_of_bodyFits h
    unfold bodyFits at h
    -- The 29th kind is PLAN-WRITE, whose lengths are a range; the 51st case is a kind that is no request.
    split at h
    case h_29 => exact planLength_allowed n (by omega) h
    case h_51 => cases h
    all_goals obtain rfl := beq_iff_eq.1 h; rfl

/-! ## The request frame of a command -/

theorem length_legBytes (legs : List (Byte × Byte)) : (legBytes legs).length = 2 * legs.length := by
  induction legs with
  | nil => rfl
  | cons leg legs ih => simp only [legBytes, List.length_cons, ih]; omega

/-- One to eight legs make a PLAN-WRITE body of 4 to 18 bytes, and even (R203). -/
theorem bodyFits_planWrite {legs : List (Byte × Byte)} (h : planLegsFit legs = true) (plan legCount : Byte) :
    bodyFits 0x31 (plan :: legCount :: legBytes legs).length = true := by
  simp only [planLegsFit, Bool.and_eq_true, decide_eq_true_eq] at h
  simp only [bodyFits, List.length_cons, length_legBytes, Bool.and_eq_true, decide_eq_true_eq, beq_iff_eq]
  omega

/-- The request of a well-formed command is of a kind that its port takes, and of a length that the body tables allow
(R191, R203). -/
theorem Instr.frame_fits {i : Instr} {f : Frame} (hwf : i.wellFormed = true) (hf : i.frame = some f) :
    Machine.portTakes f.port f.kind.toNat = true ∧ bodyFits f.kind.toNat f.body.length = true := by
  cases i
  case planWrite => cases hf; exact ⟨rfl, bodyFits_planWrite hwf _ _⟩
  case frameArrival | silenceTimerExpiry | flushRetirement | deviceReset | deadlineReached | expiryTaken |
      accrualPeriodExpiry | accrualVisit | overdueEvent | gridClockAdvance => cases hf
  all_goals cases hf; exact ⟨rfl, rfl⟩

end Sys2Proof

namespace Sys2Proof.Laws.RequestRoundTrip

/-- The family, gathered: every request frame spells its command. -/
theorem command_of_frame (i : Instr) : Statement i := by
  cases i
  exacts [frameArrival _ _, silenceTimerExpiry _, declare _ _ _ _ _ _ _ _, book _ _ _ _ _, unbook _ _ _,
    setdown _ _ _, claim _ _ _, seek _ _, yieldBin _ _ _, takeup _ _ _, finish _ _ _ _, queryBin _ _ _,
    queryCell _ _ _, cellWrite _ _ _, cellDelete _ _, cellDrain _ _ _, cellReopen _ _, robotEnrol _ _ _,
    robotWithdraw _ _, robotSuspend _ _, robotResume _ _, robotRead _ _, missLimit _ _, planWrite _ _ _ _,
    planClear _ _, planRead _ _, classWrite _ _ _, classRead _ _, zoneMode _ _ _, zoneSense _ _ _, zoneSet _ _ _,
    zoneRead _ _, dwellSet _ _ _ _, ruleWrite _ _, ruleRead _ _, ruleHits _ _, linkSet _ _ _ _ _, linkRead _ _,
    mode _ _, status _, lookup _ _ _, scan _ _ _, retire _ _, flush _, flushRetirement, reset _, deviceReset,
    noticeRead _ _ _, alertRead _, alertMask _ _, alertClear _ _, counterMask _ _ _ _, counterRead _ _,
    counterClear _ _, deadlineReached, expiryTaken _, accrualPeriodExpiry, accrualVisit, overdueEvent _,
    gridClockAdvance]

end Sys2Proof.Laws.RequestRoundTrip

namespace Sys2Proof.Machine

/-- Settles O2. A request body is far shorter than its length field allows, so the frame is read back and spells its command. -/
theorem requestBytesGiveCommandBack : Obligations.RequestBytesGiveCommandBack := by
  refine ⟨fun f hbody => ⟨goodFrame_bytes (by omega), f.length_bytes⟩, fun i f hwf hf => ?_⟩
  obtain ⟨hport, hfits⟩ := Instr.frame_fits hwf hf
  have hlength := length_le_of_bodyFits hfits
  refine ⟨?_, hport, (lengthAllowed_eq_bodyFits _ _).trans hfits⟩
  rw [goodFrame_bytes (by omega), Option.bind_some]
  exact Laws.RequestRoundTrip.command_of_frame i f hf

/-- Settles O3. A good run of bytes keeps the port it came on, and meets none of the three faults. -/
theorem framesDiscardedOrPresented : Obligations.FramesDiscardedOrPresented := by
  refine ⟨fun s bytes f hgood => ?_, fun s port bytes hbad => ?_⟩
  · obtain ⟨hport, -⟩ := of_goodFrame hgood
    simp only [exec, execFrameArrival, State.frameArrives, hgood, State.goodArrival, hport]
  · have hnone : goodFrame port bytes = none := by
      rw [Option.eq_none_iff_forall_ne_some]
      intro f hgood
      obtain ⟨-, hlong, hlength, hcheck⟩ := of_goodFrame hgood
      rcases hbad with hshort | hwrong | hdisagrees
      · omega
      · exact hwrong hlength
      · exact hdisagrees hcheck
    simp only [exec, execFrameArrival, State.frameArrives, hnone]

end Sys2Proof.Machine
end

section
/-! SUPPORT. The port checks, and when a request is taken. -/

namespace Sys2Proof.Machine

/-! ## The port checks -/

theorem robotKind_iff (k : Nat) : robotKind k = true ↔ 1 ≤ k ∧ k ≤ 0x0B := by simp [robotKind]

theorem hostKind_iff (k : Nat) : hostKind k = true ↔ 0x20 ≤ k ∧ k ≤ 0x47 ∧ k ≠ 0x33 := by
  simp [hostKind, and_assoc]

/-- A kind that is known is taken by the port whose range of codes it lies in (R191). -/
theorem portTakes_iff {k : Nat} (hknown : (1 ≤ k ∧ k ≤ 0x0B) ∨ (0x20 ≤ k ∧ k ≤ 0x47 ∧ k ≠ 0x33)) (port : Port) :
    portTakes port k = true ↔ if port = .host then 0x20 ≤ k else k ≤ 0x0B := by
  cases port with
  | link l => simp only [portTakes, robotKind_iff, reduceCtorEq, if_false]; omega
  | host => simp only [portTakes, hostKind_iff, if_true]; omega

/-- What follows from the four port checks, made in their order: the refusal of the first that fails, or the place in the
input queue (R191). -/
theorem PortUnit.elim_refusal {α : Type} (p : PortUnit) (f : Frame) (joined : α) (refused : Result → α) :
    (p.refusal f).elim joined refused =
      let k := f.kind.toNat
      if ¬ ((1 ≤ k ∧ k ≤ 0x0B) ∨ (0x20 ≤ k ∧ k ≤ 0x47 ∧ k ≠ 0x33)) then refused .unknownKind
      else if ¬ (if f.port = .host then 0x20 ≤ k else k ≤ 0x0B) then refused .notPermitted
      else if ¬ lengthAllowed k f.body.length = true then refused .badField
      else if (p.queue f.port).length < Config.inputRoom then joined
      else refused .busy := by
  have hkinds : (robotKind f.kind.toNat || hostKind f.kind.toNat) = true ↔ _ :=
    (Bool.or_eq_true _ _).to_iff.trans (or_congr (robotKind_iff _) (hostKind_iff _))
  dsimp only
  by_cases hknown : (robotKind f.kind.toNat || hostKind f.kind.toNat) = true
  · have htakes := portTakes_iff (hkinds.1 hknown) f.port
    rw [if_neg (not_not.2 (hkinds.1 hknown))]
    by_cases hport : portTakes f.port f.kind.toNat = true
    · rw [if_neg (not_not.2 (htakes.1 hport)), lengthAllowed_eq_bodyFits]
      cases hfits : bodyFits f.kind.toNat f.body.length
      · simp [PortUnit.refusal, hknown, hport, hfits]
      · by_cases hroom : (p.queue f.port).length < Config.inputRoom <;>
          simp [PortUnit.refusal, hknown, hport, hfits, hroom]
    · rw [if_pos (mt htakes.2 hport)]
      simp [PortUnit.refusal, hknown, hport]
  · rw [if_pos (mt hkinds.2 hknown)]
    simp [PortUnit.refusal, hknown]

/-- Settles O6. A request that its port refuses is answered with an empty body; one that it does not refuse joins its queue. -/
theorem portChecksInOrder : Obligations.PortChecksInOrder := by
  intro s f k refusal
  have hreply : ∀ r, s.sendReply f (refuse r) = refusal r := fun r => by
    cases hport : f.port <;> simp only [State.sendReply, replyFrames, hport, refusal] <;> rfl
  have hpresent : s.present f = (s.ports.refusal f).elim
      { s with ports := s.ports.setQueue f.port (s.ports.queue f.port ++ [f]) } refusal := by
    cases h : s.ports.refusal f with
    | none => exact State.present_accepted h
    | some r => exact (State.present_refused h).trans (hreply r)
  exact hpresent.trans (s.ports.elim_refusal f _ refusal)

/-! ## Requests that are taken -/

/-- A request of a well-formed command meets no fault at its port while the input queue has room. -/
theorem PortUnit.refusal_eq_none {p : PortUnit} {c : Instr} {f : Frame} (hf : c.frame = some f)
    (hwf : c.wellFormed = true) (hroom : (p.queue f.port).length < Config.inputRoom) : p.refusal f = none := by
  obtain ⟨hport, hfits⟩ := Instr.frame_fits hwf hf
  have hknown : (robotKind f.kind.toNat || hostKind f.kind.toNat) = true := by
    cases hp : f.port <;> rw [hp] at hport
    · exact (Bool.or_eq_true _ _).to_iff.2 (.inl hport)
    · exact (Bool.or_eq_true _ _).to_iff.2 (.inr hport)
  simp [PortUnit.refusal, hknown, hport, hfits, hroom]

theorem PortUnit.setQueue_setQueue (p : PortUnit) (port : Port) (q q' : List Frame) :
    (p.setQueue port q).setQueue port q' = p.setQueue port q' := by
  rcases port with (_ | _) | _ <;> rfl

theorem PortUnit.setQueue_queue (p : PortUnit) (port : Port) : p.setQueue port (p.queue port) = p := by
  rcases port with (_ | _) | _ <;> rfl

/-- A request that alone waits is taken next, and the queues are empty again. -/
theorem PortUnit.take_alone {p : PortUnit} (hempty : ∀ q, p.queue q = []) (f : Frame) :
    (p.setQueue f.port [f]).nextRequest = some f ∧
      (p.setQueue f.port [f]).take = { p with pointer := portAfter f.port } := by
  have hqueue : (p.setQueue f.port [f]).queue f.port = [f] := by rw [PortUnit.queue_setQueue, if_pos rfl]
  have hturn : (p.setQueue f.port [f]).Turn f.port := PortUnit.turn_of_alone fun q hq => by
    rw [PortUnit.queue_setQueue, if_neg hq, hempty]
  refine ⟨PortUnit.nextRequest_of_turn hturn hqueue, (PortUnit.take_of_turn hturn hqueue).trans ?_⟩
  rw [PortUnit.setQueue_setQueue, ← hempty f.port, PortUnit.setQueue_queue]

/-- A request that is refused changes no input queue, so one that is next after it was presented has been accepted. -/
theorem State.present_of_next {s : State} {f : Frame} (hbefore : s.ports.nextRequest ≠ some f)
    (hafter : (s.present f).ports.nextRequest = some f) :
    s.present f = s.modPorts fun p => p.setQueue f.port (p.queue f.port ++ [f]) := by
  cases h : s.ports.refusal f with
  | none => exact State.present_accepted h
  | some r =>
    obtain ⟨sent, hsent⟩ := s.sendReply_eq f (refuse r)
    rw [State.present_refused h, hsent] at hafter
    exact absurd hafter hbefore

/-- Every request command is served by some service of its own. -/
theorem exec_request {c : Instr} {f : Frame} (hf : c.frame = some f) :
    ∃ run : Frame → State → Served, ∀ s, exec c s = .next (s.serve c run) := by
  cases c
  case frameArrival | silenceTimerExpiry | flushRetirement | deviceReset | deadlineReached | expiryTaken |
      accrualPeriodExpiry | accrualVisit | overdueEvent | gridClockAdvance => cases hf
  all_goals exact ⟨_, fun _ => rfl⟩

/-- A request that is next once it has been presented is taken. -/
theorem State.ready_of_presented {s : State} {c : Instr} {f : Frame} (hf : c.frame = some f)
    (hbefore : s.ports.nextRequest ≠ some f) (hafter : (s.present f).ports.nextRequest = some f) :
    s.ready c = some (f, { s with ports := (s.present f).ports.take }) := by
  rw [State.ready_eq s hf, if_neg hbefore, if_pos hafter, State.present_of_next hbefore hafter]
  rfl

/-- Settles O8, by what the rotation hands over before and after the request is presented. -/
theorem requestWaitsItsTurn : Obligations.RequestWaitsItsTurn := by
  refine ⟨fun s c f hf hwf hempty => ?alone, fun s c f hf => ⟨fun hnext => ?waiting, fun hbefore hafter => ?presented,
    fun hbefore hafter => ?waits, fun hnone => ?step⟩⟩
  case alone =>
    have hbefore : s.ports.nextRequest ≠ some f := by
      rw [PortUnit.nextRequest, PortUnit.nextPort_of_empty hempty]
      nofun
    have hroom : (s.ports.queue f.port).length < Config.inputRoom := by rw [hempty]; decide
    have hports : (s.present f).ports = s.ports.setQueue f.port [f] := by
      rw [State.present_accepted (PortUnit.refusal_eq_none hf hwf hroom), State.modPorts_ports, hempty, List.nil_append]
    obtain ⟨hnext, htake⟩ := PortUnit.take_alone hempty f
    rw [State.ready_of_presented hf hbefore (hports ▸ hnext), hports, htake]
  case waiting =>
    rw [State.ready_eq s hf, if_pos hnext, if_pos hnext]
    rfl
  case presented =>
    exact ⟨State.ready_of_presented hf hbefore hafter, by rw [State.present_of_next hbefore hafter, State.modPorts_ports]⟩
  case waits => rw [State.ready_eq s hf, if_neg hbefore, if_neg hafter]
  case step =>
    obtain ⟨run, hexec⟩ := exec_request hf
    rw [hexec, State.serve_waits hf hnone]

end Sys2Proof.Machine
end

section
/-! SUPPORT. LINK-SET and LINK-READ. -/

namespace Sys2Proof.Machine

/-! ## Link settings -/

/-- A selector names link A, link B or both, or nothing (R198 to R200). -/
theorem selectorOf_cases (sel : Byte) :
    (2 < sel.toNat ∧ selectorOf sel = none) ∨ (sel = 0 ∧ selectorOf sel = some ([.a], .a)) ∨
      (sel = 1 ∧ selectorOf sel = some ([.b], .b)) ∨ (sel = 2 ∧ selectorOf sel = some ([.a, .b], .b)) := by
  by_cases ha : sel = 0
  · exact .inr (.inl ⟨ha, by rw [ha]; rfl⟩)
  by_cases hb : sel = 1
  · exact .inr (.inr (.inl ⟨hb, by rw [hb]; rfl⟩))
  by_cases hboth : sel = 2
  · exact .inr (.inr (.inr ⟨hboth, by rw [hboth]; rfl⟩))
  · refine .inl ⟨by bv_omega, ?_⟩
    rw [selectorOf, if_neg ha, if_neg hb, if_neg hboth]

theorem windowOf_eq (b : Byte) : windowOf b = if b = 0 then 1 else b.toNat := by
  unfold windowOf
  split <;> bv_omega

theorem silenceLimitOf_eq (b : Byte) :
    silenceLimitOf b = if b = 0 then 1 else if 40 < b.toNat then 40 else b.toNat := by
  unfold silenceLimitOf
  split_ifs <;> bv_omega

/-- Settles O41, selector by selector. -/
theorem linkSettings : Obligations.LinkSettings := by
  refine fun s hd sel f u => ⟨fun booking claim silence ht => ?_, fun ht => ?_⟩
  · intro set t
    rcases selectorOf_cases sel with ⟨hbad, hsel⟩ | ⟨rfl, hsel⟩ | ⟨rfl, hsel⟩ | ⟨rfl, hsel⟩
    · rw [if_pos hbad]
      exact exec_host rfl ht (by rw [linkSetRequest, hsel]; rfl)
    all_goals
      refine exec_host rfl ht ?_
      simp only [linkSetRequest, hsel, windowOf_eq, silenceLimitOf_eq, linkBlock, boolByte_eq]
      rfl
  · rcases selectorOf_cases sel with ⟨hbad, hsel⟩ | ⟨rfl, hsel⟩ | ⟨rfl, hsel⟩ | ⟨rfl, hsel⟩
    · rw [if_pos hbad]
      exact exec_host rfl ht (by rw [linkReadRequest, hsel]; rfl)
    all_goals
      refine exec_host rfl ht ?_
      simp only [linkReadRequest, hsel, linkBlock, boolByte_eq]
      rfl

end Sys2Proof.Machine
end

section
/-! SUPPORT. Link events: the deadline list after every record on a link has been brought into line, and the two events. -/

namespace Sys2Proof.Machine

/-! ## The deadline list after a link event -/

/-- The deadline list after a record has been brought into line (R50, R137, R138). -/
def State.alignedList (s : State) (up : Bool) (list : List Deadline) (p : Nat × Record) : List Deadline :=
  match up, p.2.custody.timing with
  | true, some (.held saved) =>
    insertDeadline ⟨s.timer.clock + BitVec.ofNat 32 saved, s.handleOf p.1, p.2.deadlineKind, false⟩ list
  | false, some (.armed _) => list.filter fun d => d.handle ≠ s.handleOf p.1
  | _, _ => list

/-- The state with other records and another deadline list, which are all that link events write beside the link. -/
def State.withHolds (s : State) (records : Table Record) (list : List Deadline) : State :=
  { s with engine := { s.engine with records := records }, timer := { s.timer with list := list } }

section
variable {s : State} {records : Table Record} {list : List Deadline}

theorem State.partyOn_withHolds (r : Record) (l : Link) : (s.withHolds records list).partyOn r l = s.partyOn r l := rfl

theorem State.list_alignHold_withHolds {p : Nat × Record} (hlook : records.look p.1 = some p.2) (up : Bool) :
    ((s.withHolds records list).alignHold p.1 up).timer.list = s.alignedList up list p :=
  State.list_alignHold (s := s.withHolds records list) hlook up

/-- Records brought into line one after another, each in a slot of its own. -/
theorem State.list_foldl_alignHold (l : Link) (up : Bool) {original : Table Record} (hwf : original.wf = true)
    (hlook : ∀ p ∈ original, records.look p.1 = some p.2) :
    (original.foldl (fun t p => if t.partyOn p.2 l then t.alignHold p.1 up else t) (s.withHolds records list)).timer.list =
      original.foldl (fun list p => if s.partyOn p.2 l then s.alignedList up list p else list) list := by
  induction original generalizing records list with
  | nil => rfl
  | cons p original ih =>
    obtain ⟨hlt, hrest⟩ := List.pairwise_cons.1 (List.map_cons ▸ (Table.wf_iff _).1 hwf)
    have hp : records.look p.1 = some p.2 := hlook p List.mem_cons_self
    have hothers : ∀ q ∈ original, records.look q.1 = some q.2 := fun q hq => hlook q (List.mem_cons_of_mem _ hq)
    rw [List.foldl_cons, List.foldl_cons, State.partyOn_withHolds]
    cases hon : s.partyOn p.2 l with
    | false => exact ih ((Table.wf_iff _).2 hrest) hothers
    | true =>
      obtain ⟨records', list', halign⟩ := (s.withHolds records list).alignHold_eq p.1 up
      have hrecords : ∀ q ∈ original, records'.look q.1 = some q.2 := fun q hq => by
        have hne : q.1 ≠ p.1 := (hlt _ (List.mem_map_of_mem hq)).ne'
        have hkept := (s.withHolds records list).look_alignHold p.1 up q.1
        rw [halign, if_neg hne] at hkept
        exact hkept.trans (hothers q hq)
      have hlist : list' = s.alignedList up list p := by
        rw [← State.list_alignHold_withHolds hp, halign]
      rw [if_pos rfl, if_pos rfl, halign, ← hlist]
      exact ih ((Table.wf_iff _).2 hrest) hrecords

end

/-- A link event brings the records on the link into line in ascending slot order (R146, R147). -/
theorem State.list_alignLink {s : State} (hwf : s.engine.records.wf = true) (l : Link) (up : Bool) :
    (s.alignLink l up).timer.list =
      s.engine.records.foldl (fun list p => if s.partyOn p.2 l then s.alignedList up list p else list) s.timer.list :=
  State.list_foldl_alignHold l up hwf fun _ hp => (Table.look_eq_some_iff _ hwf _ _).2 hp

/-- On a link that comes UP, each held record is given the entry of its saved time (R147). -/
theorem State.foldl_alignedList_up (s : State) (l : Link) (original : Table Record) (list : List Deadline) :
    original.foldl (fun list p => if s.partyOn p.2 l then s.alignedList true list p else list) list =
      (original.filterMap fun p =>
        if s.partyOn p.2 l then
          match p.2.custody.timing with
          | some (.held saved) =>
            some ⟨s.timer.clock + BitVec.ofNat 32 saved, s.handleOf p.1, p.2.deadlineKind, false⟩
          | _ => none
        else none).foldl (fun ds d => insertDeadline d ds) list := by
  rw [List.foldl_filterMap]
  congr 1
  funext list p
  cases s.partyOn p.2 l with
  | false => rfl
  | true => rcases htiming : p.2.custody.timing with _ | _ | _ <;> simp [State.alignedList, htiming]

/-- On a link that goes DOWN, the armed records lose their entries, and no other entry goes (R138, R146). -/
theorem State.mem_foldl_alignedList_down (s : State) (l : Link) (original : Table Record) (list : List Deadline)
    (e : Deadline) :
    e ∈ original.foldl (fun list p => if s.partyOn p.2 l then s.alignedList false list p else list) list ↔
      e ∈ list ∧ ∀ p ∈ original, e.handle = s.handleOf p.1 → ¬ (s.partyOn p.2 l = true ∧ p.2.isArmed = true) := by
  induction original generalizing list with
  | nil => simp
  | cons p original ih =>
    rw [List.foldl_cons, ih, List.forall_mem_cons, ← and_assoc]
    refine and_congr_left fun _ => ?_
    cases s.partyOn p.2 l with
    | false => simp
    | true => rcases htiming : p.2.custody.timing with _ | _ | _ <;> simp [State.alignedList, Record.isArmed, htiming]

theorem State.foldl_alignedList_down_sublist (s : State) (l : Link) (original : Table Record) (list : List Deadline) :
    (original.foldl (fun list p => if s.partyOn p.2 l then s.alignedList false list p else list) list).Sublist list := by
  induction original generalizing list with
  | nil => exact .refl _
  | cons p original ih =>
    refine (ih _).trans ?_
    dsimp only
    split
    · rcases htiming : p.2.custody.timing with _ | _ | _ <;> simp [State.alignedList, htiming]
    · exact .refl _

/-! ## The two link events -/

/-- A link event writes records, deadlines and the edge of LINK (R195, R214). -/
theorem State.linkEvent_eq (s : State) (l : Link) (up : Bool) :
    s.linkEvent l up =
      { s with
        engine := { s.engine with records := (s.linkEvent l up).engine.records }
        timer := { s.timer with list := (s.linkEvent l up).timer.list }
        notices :=
          { s.notices with linkEdge := ⟨true, s.notices.linkEdge.overrun || s.notices.linkEdge.pending⟩ } } := by
  obtain ⟨records, list, halign⟩ := s.alignLink_eq l up
  rw [State.linkEvent, halign, ← Edge.raise_eq]
  rfl

theorem State.linkEvent_ports (s : State) (l : Link) (up : Bool) : (s.linkEvent l up).ports = s.ports := by
  rw [State.linkEvent_eq]

theorem State.look_linkEvent {s : State} (hwf : s.engine.records.wf = true) (l : Link) (up : Bool) (n : Nat) :
    (s.linkEvent l up).engine.records.look n = (s.engine.records.look n).map fun r =>
      if s.partyOn r l then r.retimed (if up then Timing.armedAt s.timer.clock else Timing.heldAt s.timer.clock) else r := by
  simp only [← Record.aligned_eq_retimed]
  exact State.look_alignLink hwf l up n

theorem State.list_linkEvent {s : State} (hwf : s.engine.records.wf = true) (l : Link) (up : Bool) :
    (s.linkEvent l up).timer.list =
      s.engine.records.foldl (fun list p => if s.partyOn p.2 l then s.alignedList up list p else list) s.timer.list :=
  State.list_alignLink hwf l up

/-- An entry outlasts a link that goes DOWN unless its handle names an armed record of the link's parties (R146). -/
theorem State.mem_list_linkEvent_down {s : State} (hwf : s.engine.records.wf = true) (l : Link) (e : Deadline) :
    e ∈ (s.linkEvent l false).timer.list ↔ e ∈ s.timer.list ∧
      ∀ r, s.engine.records.look e.handle.slot = some r → e.handle = s.handleOf e.handle.slot →
        ¬ (s.partyOn r l = true ∧ r.isArmed = true) := by
  rw [State.list_linkEvent hwf, State.mem_foldl_alignedList_down]
  refine and_congr_right fun _ => ⟨fun h r hlook hhandle => ?_, fun h p hp hhandle => ?_⟩
  · exact h _ (Table.mem_of_look hlook) hhandle
  · have hslot : e.handle.slot = p.1 := congrArg Handle.slot hhandle
    exact h p.2 (hslot ▸ (Table.look_eq_some_iff _ hwf _ _).2 hp) (hslot ▸ hhandle)

/-- Settles O4. On a link that was DOWN the frame is a link event, after the link's own fields have been written. -/
theorem goodFrameOnLink : Obligations.GoodFrameOnLink := by
  intro s l bytes f hgood hwf
  obtain ⟨hport, -⟩ := of_goodFrame hgood
  refine ⟨s.goodOnLink l f, ?exec, ?_⟩
  case exec => simp only [exec, execFrameArrival, State.frameArrives, hgood, State.goodArrival, hport]
  let u : State := s.modPorts fun p => p.modLink l fun k =>
    { k with up := true, mirror := f.flags.getLsbD 0, silence := some (k.silenceLimit * 250) }
  have hv : s.goodOnLink l f = if s.linkUp l then u else u.linkEvent l true := rfl
  cases hup : s.linkUp l with
  | true =>
    rw [hv, hup, if_pos rfl]
    exact ⟨rfl, fun _ => rfl, nofun⟩
  | false =>
    rw [hv, hup, if_neg nofun]
    have hevent := u.linkEvent_eq l true
    have hports := u.linkEvent_ports l true
    refine ⟨hports, nofun, fun _ => ⟨?_, fun n => ?_, ?_⟩⟩
    · rw [hports]; exact hevent
    · exact u.look_linkEvent hwf l true n
    · exact (u.list_linkEvent hwf l true).trans (u.foldl_alignedList_up l _ _)

/-- Settles O5. The silence timer that has run out is a link event, after the link's own fields have been written. -/
theorem silenceTimerExpiry : Obligations.SilenceTimerExpiry := by
  refine fun s l hwf => ⟨fun hidle => ?_, fun hup hsilence => ?_⟩
  · exact congrArg Host.Outcome.next (if_neg hidle)
  · let u : State := s.modPorts fun p => p.modLink l fun k => { k with up := false, silence := none, mirror := false }
    refine ⟨u.linkEvent l false, congrArg Host.Outcome.next (if_pos ⟨hup, hsilence⟩), u.linkEvent_eq l false,
      fun n => u.look_linkEvent hwf l false n, ?_, u.mem_list_linkEvent_down hwf l⟩
    rw [u.list_linkEvent hwf]
    exact u.foldl_alignedList_down_sublist l _ _

end Sys2Proof.Machine
end

section
/-! SUPPORT. No operation of the part touches the commands that wait: one lemma per operation that branches. -/

namespace Sys2Proof.Machine

section
variable (s : State)

/-! ## Ports and replies -/

@[simp] theorem State.sendReply_pending (f : Frame) (a : Answer) : (s.sendReply f a).pending = s.pending := by
  obtain ⟨sent, h⟩ := s.sendReply_eq f a
  rw [h]

@[simp] theorem State.respond_pending (f : Frame) (a : Answer) : (s.respond f a).pending = s.pending := by
  unfold State.respond
  split <;> simp

@[simp] theorem State.present_pending (f : Frame) : (s.present f).pending = s.pending := by
  unfold State.present
  split <;> simp

/-! ## Entries, queues and timings -/

@[simp] theorem State.modCell_pending (n : Nat) (f : Cell → Cell) : (s.modCell n f).pending = s.pending := by
  rw [State.modCell_eq]

@[simp] theorem State.modRobot_pending (n : Nat) (f : Robot → Robot) : (s.modRobot n f).pending = s.pending := by
  rw [State.modRobot_eq]

@[simp] theorem State.setParty_pending (n : Nat) (p : Option (Handle × Role)) : (s.setParty n p).pending = s.pending :=
  s.modRobot_pending n _

@[simp] theorem State.maskChange_pending (h : Handle) (old new : Byte) (priority : Nat) (seq : Word) :
    (s.maskChange h old new priority seq).pending = s.pending := by
  unfold State.maskChange
  split <;> rfl

@[simp] theorem State.startTiming_pending (h : Handle) (kind : DeadlineKind) (l : Link) (window : Nat) :
    (s.startTiming h kind l window).1.pending = s.pending := by
  rw [State.startTiming_eq]
  rfl

@[simp] theorem State.alignHold_pending (slot : Nat) (up : Bool) : (s.alignHold slot up).pending = s.pending := by
  obtain ⟨records, list, h⟩ := s.alignHold_eq slot up
  rw [h]

@[simp] theorem State.alignLink_pending (l : Link) (up : Bool) : (s.alignLink l up).pending = s.pending := by
  obtain ⟨records, list, h⟩ := s.alignLink_eq l up
  rw [h]

@[simp] theorem State.linkUpdate_pending (n : Nat) (l : Link) (e : Robot) :
    (s.linkUpdate n l e).pending = s.pending := by
  obtain ⟨records, list, h⟩ := s.linkUpdate_eq n l e
  rw [h]

@[simp] theorem State.takeRule_pending (m : Option (Nat × Rule)) (notice : Byte → Notice) (denied : Bool) :
    (s.takeRule m notice denied).pending = s.pending := by
  obtain ⟨rules, notices, h⟩ := s.takeRule_eq m notice denied
  rw [h]

/-! ## Cells and records -/

@[simp] theorem State.closeCheck_pending (n : Nat) : (s.closeCheck n).pending = s.pending := by
  unfold State.closeCheck
  split
  · rfl
  · split <;> rfl

@[simp] theorem State.unstack_pending (n : Nat) (h : Handle) : (s.unstack n h).pending = s.pending := by
  rw [State.unstack_eq]

@[simp] theorem State.openRecord_pending (n slot : Nat) (r : Record) : (s.openRecord n slot r).pending = s.pending := by
  rw [State.openRecord_eq]

@[simp] theorem State.bookRecord_pending (n : Nat) (l : Link) (h : Handle) (r : Record) (k : Nat) (receiver : Option Nat)
    (m : Option (Nat × Rule)) : (s.bookRecord n l h r k receiver m).pending = s.pending := by
  simp [State.bookRecord, State.putRecord]

variable (h : Handle) (r : Record) (spot : Spot) (lapsed receiver : Option Nat) (n k : Nat)

@[simp] theorem State.endBooking_pending : (s.endBooking h r n k lapsed).pending = s.pending := by
  simp [State.endBooking, State.putRecord, State.unreserve, State.disarm]

@[simp] theorem State.stageRecord_pending (mask : Byte) : (s.stageRecord h r n k receiver mask).pending = s.pending := by
  obtain ⟨pickup, hburied⟩ := s.buried_eq (s.cellTop k)
  rw [State.stageRecord_eq, hburied]
  rfl

@[simp] theorem State.grant_pending (l : Link) : (s.grant n l h r spot).pending = s.pending := by
  simp [State.grant, State.putRecord, State.leave, State.modQueues]

@[simp] theorem State.endClaim_pending : (s.endClaim h r spot n lapsed).pending = s.pending := by
  simp [State.endClaim, State.putRecord, State.enter, State.modQueues, State.disarm]

@[simp] theorem State.takeupRecord_pending : (s.takeupRecord h r spot n).pending = s.pending := by
  simp [State.takeupRecord, State.putRecord, State.countEvent, State.disarm]

@[simp] theorem State.retire_pending : (s.retire h r).pending = s.pending := by
  rw [State.retire_eq]
  dsimp only
  split
  · simp [State.retired]
  · rfl

@[simp] theorem State.refuseCustody_pending : (s.refuseCustody n h r spot).pending = s.pending := by
  unfold State.refuseCustody
  split
  · rfl
  · dsimp only
    split <;> rfl

/-! ## Events -/

@[simp] theorem State.visit_pending (slot : Nat) : (s.visit slot).pending = s.pending := by
  obtain ⟨records, overdues, notices, h⟩ := s.visit_eq slot
  rw [h]

@[simp] theorem State.beginPass_pending : s.beginPass.pending = s.pending := by
  obtain ⟨hstarted, -⟩ := s.passStarted_beginPass
  rw [hstarted]

theorem State.periodExpiry_pending : s.periodExpiry.pending = s.pending := by
  unfold State.periodExpiry
  split
  · dsimp only
    split
    · rfl
    · exact State.beginPass_pending _
  · rfl

theorem State.accrualStep_pending : s.accrualStep.pending = s.pending := by
  have hend : ∀ t : State, t.endPass.pending = t.pending := fun t => by
    unfold State.endPass
    dsimp only
    split
    · exact State.beginPass_pending _
    · rfl
  unfold State.accrualStep
  split
  · rfl
  · dsimp only
    split
    · exact s.visit_pending _
    · exact (hend _).trans (s.visit_pending _)

theorem State.frameArrives_pending (port : Port) (bytes : List Byte) : (s.frameArrives port bytes).pending = s.pending := by
  have hlink : ∀ l f, (s.goodOnLink l f).pending = s.pending := fun l f => by
    unfold State.goodOnLink
    dsimp only
    split
    · rfl
    · exact State.alignLink_pending _ l true
  unfold State.frameArrives
  split
  · rfl
  · next f _ =>
    have harrived : (match f.port with
        | .link l => s.goodOnLink l f
        | .host => s).pending = s.pending := by
      split
      · exact hlink _ f
      · rfl
    unfold State.goodArrival
    dsimp only
    split
    · exact harrived
    · exact (State.present_pending _ f).trans harrived

theorem State.silenceExpires_pending (l : Link) : (s.silenceExpires l).pending = s.pending := by
  unfold State.silenceExpires
  split
  · exact State.alignLink_pending _ l false
  · rfl

theorem State.raiseExpiry_pending : s.raiseExpiry.pending = s.pending := by
  unfold State.raiseExpiry
  split <;> rfl

theorem State.claimLapse_pending : (s.claimLapse h r spot n).pending = s.pending := by
  unfold State.claimLapse
  dsimp only
  split <;> simp [State.post, State.countEvent]

theorem State.takeExpiry_pending (i : Nat) : (s.takeExpiry i).pending = s.pending := by
  have hlapse : ∀ (t : State) x, (t.lapse x).pending = t.pending := fun t x => by
    unfold State.lapse
    split
    · rfl
    split
    · split
      · exact t.endBooking_pending _ _ _ _ _
      · rfl
    · split
      · exact t.claimLapse_pending _ _ _ _
      · rfl
    · rfl
  unfold State.takeExpiry
  split
  · rfl
  split
  · rfl
  · exact hlapse _ _

theorem State.raised_pending : (s.raised h r).pending = s.pending := by
  unfold State.raised
  dsimp only
  split <;> rfl

theorem State.rescue_pending (p : Plan) : (s.rescue h r k p).pending = s.pending := by
  have hreplanned : (s.replanned h r k p).pending = s.pending := by
    rw [State.replanned_eq]
    rfl
  rw [State.rescue_eq]
  refine Eq.trans ?_ hreplanned
  split
  · exact State.maskChange_pending _ _ _ _ _ _
  · rfl

theorem State.decideRescue_pending : (s.decideRescue h r).pending = s.pending := by
  unfold State.decideRescue
  split
  · rfl
  split
  · rfl
  split
  · rfl
  · exact s.rescue_pending h r _ _

theorem State.takeOverdue_pending (i : Nat) : (s.takeOverdue i).pending = s.pending := by
  have htaken : ∀ (t : State) x, (t.overdueTaken x).pending = t.pending := fun t x => by
    cases hrec : t.recordOf x with
    | none => simp only [State.overdueTaken, hrec]
    | some r =>
      rw [State.overdueTaken_eq hrec]
      exact (State.decideRescue_pending _ _ _).trans (t.raised_pending x r)
  unfold State.takeOverdue
  split
  · rfl
  split
  · rfl
  · exact htaken _ _

theorem State.endFlush_pending : s.endFlush.pending = s.pending := by
  unfold State.endFlush
  dsimp only
  split
  · exact State.sendReply_pending _ _ _
  · rfl

theorem State.flushStep_pending : s.flushStep.pending = s.pending := by
  unfold State.flushStep
  split
  · rfl
  split
  · exact s.endFlush_pending
  · dsimp only
    split
    · exact (State.endFlush_pending _).trans (s.retire_pending _ _)
    · exact s.retire_pending _ _

end

/-! ## Requests -/

variable {s : State}

/-- What a service leaves waiting, its presenting, taking and answering leave waiting too. -/
theorem State.serve_pending (c : Instr) {run : Frame → State → Served}
    (hrun : ∀ f u, (run f u).1.pending = u.pending) : (s.serve c run).pending = s.pending := by
  cases hf : c.frame with
  | none => simp only [State.serve, hf]
  | some f =>
    cases hready : s.ready c with
    | none => rw [State.serve_waits hf hready, State.present_pending]
    | some taken =>
      obtain ⟨f', u⟩ := taken
      obtain ⟨ports, rfl⟩ := State.ready_eq_ports hready
      rw [State.serve_ready hready]
      split
      · exact (State.respond_pending _ f' _).trans (hrun f' _)
      · exact hrun f' _

theorem State.serve_host_pending (c : Instr) {own : State → State × Answer}
    (hown : ∀ u, (own u).1.pending = u.pending) : (s.serve c (hostService own)).pending = s.pending := by
  refine State.serve_pending c fun f u => ?_
  unfold hostService
  split
  · rfl
  · exact hown u

theorem State.serve_robot_pending (c : Instr) {l : Link} {hd : Hdr} {own : Nat → State → State × Answer}
    (hown : ∀ n v, (own n v).1.pending = v.pending) : (s.serve c (robotService l hd own)).pending = s.pending := by
  refine State.serve_pending c fun f u => ?_
  unfold robotService
  split
  · rfl
  dsimp only
  split
  · rfl
  split
  · rfl
  · exact (hown _ _).trans (u.linkUpdate_pending _ _ _)

theorem withParty_pending {kind : Byte} {need : RecordState} {late : Bool} {raw : Half} {n : Nat}
    {go : Handle → Record → State × Answer} (hgo : ∀ h r, (go h r).1.pending = s.pending) :
    (withParty kind need late raw n s go).1.pending = s.pending := by
  unfold withParty
  split
  · rfl
  split
  · exact hgo _ _
  · rfl
  · rfl

/-! ## Robot requests -/

section
variable {n : Nat}

theorem declareRequest_pending (bin : Word) (cls zone plan wave priority : Byte) :
    (declareRequest bin cls zone plan wave priority n s).1.pending = s.pending := by
  rw [declareRequest_eq]
  split
  · rfl
  split
  · rfl
  split
  · rfl
  split
  · rfl
  split
  · exact (State.openRecord_pending _ _ _ _).trans (s.takeRule_pending _ _ _)
  · rfl

theorem bookRequest_pending (l : Link) (handle cell receiver : Half) :
    (bookRequest l handle cell receiver n s).1.pending = s.pending := by
  unfold bookRequest
  split
  · rfl
  refine withParty_pending fun h r => ?_
  split
  · rfl
  split
  · rfl
  split
  · rfl
  split
  · rfl
  split
  · rfl
  dsimp only
  split
  · exact s.takeRule_pending _ _ _
  · exact (State.bookRecord_pending _ _ _ _ _ _ _ _).trans (s.takeRule_pending _ _ _)

theorem unbookRequest_pending (handle : Half) : (unbookRequest handle n s).1.pending = s.pending :=
  withParty_pending fun h r => by
    split
    · exact s.endBooking_pending _ _ _ _ _
    · rfl

theorem setdownRequest_pending (handle : Half) : (setdownRequest handle n s).1.pending = s.pending :=
  withParty_pending fun h r => by
    split
    · split
      · rfl
      · exact s.stageRecord_pending _ _ _ _ _ _
    · rfl

theorem claimRequest_pending (l : Link) (handle : Half) : (claimRequest l handle n s).1.pending = s.pending := by
  unfold claimRequest
  split
  · rfl
  split
  · rfl
  split
  · split
    · rfl
    split
    · exact s.refuseCustody_pending _ _ _ _
    · exact s.grant_pending _ _ _ _ _
  · rfl

theorem seekRequest_pending (l : Link) : (seekRequest l n s).1.pending = s.pending := by
  unfold seekRequest
  split
  · rfl
  split
  · rfl
  · exact s.grant_pending _ _ _ _ _

theorem yieldRequest_pending (handle : Half) : (yieldRequest handle n s).1.pending = s.pending :=
  withParty_pending fun h r => by
    split
    · exact s.endClaim_pending _ _ _ _ _
    · rfl

theorem takeupRequest_pending (handle : Half) : (takeupRequest handle n s).1.pending = s.pending :=
  withParty_pending fun h r => by
    split
    · exact s.takeupRecord_pending _ _ _ _
    · rfl

theorem finishRequest_pending (handle : Half) (outcome : Byte) : (finishRequest handle outcome n s).1.pending = s.pending :=
  withParty_pending fun h r => by
    split
    · rfl
    · dsimp only
      split <;> exact s.retire_pending h r

theorem queryBinRequest_pending (bin : Word) : (queryBinRequest bin n s).1.pending = s.pending := by
  unfold queryBinRequest
  split <;> rfl

theorem queryCellRequest_pending (cell : Half) : (queryCellRequest cell n s).1.pending = s.pending := by
  unfold queryCellRequest
  split
  · rfl
  · split <;> rfl

end

/-! ## Management requests -/

theorem cellDrainRequest_pending (cell : Half) (admissions : Byte) :
    (cellDrainRequest cell admissions s).1.pending = s.pending := by
  unfold cellDrainRequest
  dsimp only
  split
  · rfl
  split
  · rfl
  split
  · rfl
  · exact State.closeCheck_pending _ _

theorem ruleHitsRequest_pending (clear : Quad) : (ruleHitsRequest clear s).1.pending = s.pending := by
  obtain ⟨rules, h⟩ := s.foldl_clearHit_eq clear (List.range 64)
  rw [ruleHitsRequest_eq, h]

theorem retireRequest_pending (handle : Half) : (retireRequest handle s).1.pending = s.pending := by
  unfold retireRequest
  split
  · rfl
  · exact s.retire_pending _ _

theorem flushService_pending (f : Frame) : (flushService f s).1.pending = s.pending := by
  unfold flushService
  split
  · rfl
  · rfl
  · dsimp only
    split
    · exact State.endFlush_pending _
    · rfl

theorem resetService_pending (f : Frame) : (resetService f s).1.pending = s.pending := by
  unfold resetService
  split
  · rfl
  · exact s.sendReply_pending f _

/-! ## Every command -/

/-- Every command answers a next state and leaves the commands that wait. The last group are the management requests that
write one block at most, in the branch in which they accept. -/
theorem exec_pending (c : Instr) (s : State) : ∃ t, exec c s = .next t ∧ t.pending = s.pending := by
  cases c
  case frameArrival port bytes => exact ⟨_, rfl, s.frameArrives_pending port bytes⟩
  case silenceTimerExpiry l => exact ⟨_, rfl, s.silenceExpires_pending l⟩
  case declare => exact ⟨_, rfl, State.serve_robot_pending _ fun _ _ => declareRequest_pending ..⟩
  case book => exact ⟨_, rfl, State.serve_robot_pending _ fun _ _ => bookRequest_pending ..⟩
  case unbook => exact ⟨_, rfl, State.serve_robot_pending _ fun _ _ => unbookRequest_pending _⟩
  case setdown => exact ⟨_, rfl, State.serve_robot_pending _ fun _ _ => setdownRequest_pending _⟩
  case claim => exact ⟨_, rfl, State.serve_robot_pending _ fun _ _ => claimRequest_pending ..⟩
  case seek => exact ⟨_, rfl, State.serve_robot_pending _ fun _ _ => seekRequest_pending _⟩
  case yieldBin => exact ⟨_, rfl, State.serve_robot_pending _ fun _ _ => yieldRequest_pending _⟩
  case takeup => exact ⟨_, rfl, State.serve_robot_pending _ fun _ _ => takeupRequest_pending _⟩
  case finish => exact ⟨_, rfl, State.serve_robot_pending _ fun _ _ => finishRequest_pending ..⟩
  case queryBin => exact ⟨_, rfl, State.serve_robot_pending _ fun _ _ => queryBinRequest_pending _⟩
  case queryCell => exact ⟨_, rfl, State.serve_robot_pending _ fun _ _ => queryCellRequest_pending _⟩
  case cellDrain => exact ⟨_, rfl, State.serve_host_pending _ fun _ => cellDrainRequest_pending ..⟩
  case ruleHits => exact ⟨_, rfl, State.serve_host_pending _ fun _ => ruleHitsRequest_pending _⟩
  case retire => exact ⟨_, rfl, State.serve_host_pending _ fun _ => retireRequest_pending _⟩
  case status => exact ⟨_, rfl, State.serve_pending _ fun _ _ => rfl⟩
  case flush => exact ⟨_, rfl, State.serve_pending _ fun f _ => flushService_pending f⟩
  case reset => exact ⟨_, rfl, State.serve_pending _ fun f _ => resetService_pending f⟩
  case alertRead => exact ⟨_, rfl, State.serve_host_pending _ fun _ => rfl⟩
  case flushRetirement => exact ⟨_, rfl, s.flushStep_pending⟩
  case deadlineReached => exact ⟨_, rfl, s.raiseExpiry_pending⟩
  case expiryTaken i => exact ⟨_, rfl, s.takeExpiry_pending i⟩
  case accrualPeriodExpiry => exact ⟨_, rfl, s.periodExpiry_pending⟩
  case accrualVisit => exact ⟨_, rfl, s.accrualStep_pending⟩
  case overdueEvent i => exact ⟨_, rfl, s.takeOverdue_pending i⟩
  case deviceReset | gridClockAdvance => exact ⟨_, rfl, rfl⟩
  all_goals
    refine ⟨_, rfl, State.serve_host_pending _ fun u => ?_⟩
    simp only [cellWriteRequest, cellDeleteRequest, cellReopenRequest, robotEnrolRequest, robotWithdrawRequest,
      robotSuspendRequest, robotResumeRequest, robotReadRequest, missLimitRequest, planWriteRequest, planClearRequest,
      planReadRequest, classWriteRequest, classReadRequest, zoneModeRequest, zoneSenseRequest, zoneSetRequest,
      zoneReadRequest, dwellSetRequest, ruleWriteRequest, ruleReadRequest, linkSetRequest, linkReadRequest, modeRequest,
      lookupRequest, scanRequest, noticeReadRequest, alertMaskRequest, alertClearRequest, counterMaskRequest,
      counterReadRequest, counterClearRequest]
    repeat' split
    all_goals rfl

/-- Settles O1. -/
theorem stepRunsFrontCommand : Obligations.StepRunsFrontCommand :=
  ⟨fun s c rest hfront => by rw [step, hfront], fun s hidle => by rw [step, hidle], exec_pending⟩

end Sys2Proof.Machine
end

section
/-! SUPPORT. STATUS, and the two requests that read records: LOOKUP and SCAN. -/

namespace Sys2Proof.Machine

/-! ## The record that a LOOKUP names -/

/-- The handle field holds the low bits of a wider number: a handle, when its top bit is zero (R2, R200). -/
theorem Handle.ofWire_low {value : Word} (hvalue : value.toNat ≤ 65535) :
    Handle.ofWire (value.extractLsb' 0 16) =
      if value.toNat < 32768 then some ⟨value.toNat % 2048, value.toNat / 2048⟩ else none := by
  have hlow : (value.extractLsb' 0 16).toNat = value.toNat := by
    rw [BitVec.extractLsb'_toNat, Nat.shiftRight_zero]
    omega
  rw [Handle.ofWire, hlow]

theorem State.findBin_eq_some_iff (s : State) (bin : Word) (h : Handle) (r : Record) :
    s.findBin bin = some (h, r) ↔
      s.engine.binIndex.look bin.toNat = some h.slot ∧ s.engine.records.look h.slot = some r ∧ h = s.handleOf h.slot := by
  unfold State.findBin
  split
  · next habsent => simp [habsent]
  · next slot hindex =>
    rw [Option.map_eq_some_iff, hindex]
    constructor
    · rintro ⟨r', hrecord, hpair⟩
      obtain ⟨rfl, rfl⟩ := Prod.mk.inj hpair
      exact ⟨rfl, hrecord, rfl⟩
    · rintro ⟨hslot, hrecord, hhandle⟩
      obtain rfl := Option.some.inj hslot
      exact ⟨r, hrecord, by rw [← hhandle]⟩

theorem State.resolve_low_eq_some_iff (s : State) {value : Word} (hvalue : value.toNat ≤ 65535) (h : Handle) (r : Record) :
    s.resolve (value.extractLsb' 0 16) = some (h, r) ↔
      value.toNat < 32768 ∧ h = ⟨value.toNat % 2048, value.toNat / 2048⟩ ∧ s.recordOf h = some r := by
  rw [State.resolve, Handle.ofWire_low hvalue]
  by_cases htop : value.toNat < 32768
  · rw [if_pos htop]
    refine Option.map_eq_some_iff.trans ⟨?_, ?_⟩
    · rintro ⟨r', hrecord, hpair⟩
      obtain ⟨rfl, rfl⟩ := Prod.mk.inj hpair
      exact ⟨htop, rfl, hrecord⟩
    · rintro ⟨-, rfl, hrecord⟩
      exact ⟨r, hrecord, rfl⟩
  · simp [htop]

/-- A LOOKUP's fields name a live record: by its bin ID, or by its handle (R207). -/
def State.Names (s : State) (sel : Byte) (value : Word) (h : Handle) (r : Record) : Prop :=
  (sel = 0 ∧ s.engine.binIndex.look value.toNat = some h.slot ∧ s.engine.records.look h.slot = some r ∧
      h = s.handleOf h.slot) ∨
    (sel = 1 ∧ value.toNat < 32768 ∧ h = ⟨value.toNat % 2048, value.toNat / 2048⟩ ∧ s.recordOf h = some r)

/-- What a LOOKUP in range finds. -/
def State.sought (s : State) (sel : Byte) (value : Word) : Option (Handle × Record) :=
  if sel = 0 then s.findBin value else s.resolve (value.extractLsb' 0 16)

theorem State.sought_eq_some_iff (s : State) {sel : Byte} {value : Word} (hsel : sel.toNat ≤ 1)
    (hvalue : sel = 1 → value.toNat ≤ 65535) (h : Handle) (r : Record) :
    s.sought sel value = some (h, r) ↔ s.Names sel value h r := by
  have hcode : sel = 0 ∨ sel = 1 := by bv_omega
  rcases hcode with rfl | rfl
  · simp [State.sought, State.Names, s.findBin_eq_some_iff]
  · simp [State.sought, State.Names, s.resolve_low_eq_some_iff (hvalue rfl)]

/-! ## LOOKUP -/

theorem lookupRequest_of_range {sel : Byte} {value : Word} (hbad : 1 < sel.toNat ∨ (sel = 1 ∧ 65535 < value.toNat))
    (s : State) : lookupRequest sel value s = (s, refuse .badField) := by
  have hzero : sel ≠ 0 := by bv_omega
  have hone : ¬ (sel = 1 ∧ value.toNat < 65536) := by bv_omega
  simp only [lookupRequest, if_neg hzero, if_neg hone]

theorem lookupRequest_of_fit {sel : Byte} {value : Word} (hsel : sel.toNat ≤ 1) (hvalue : sel = 1 → value.toNat ≤ 65535)
    (s : State) :
    lookupRequest sel value s =
      match s.sought sel value with
      | none => (s, refuse .none)
      | some (h, r) => (s, accept (recordBlock s h r)) := by
  by_cases hzero : sel = 0
  · simp only [lookupRequest, State.sought, if_pos hzero]
    cases s.findBin value <;> rfl
  · have hone : sel = 1 := by bv_omega
    have hfit : sel = 1 ∧ value.toNat < 65536 := ⟨hone, Nat.lt_succ_of_le (hvalue hone)⟩
    simp only [lookupRequest, State.sought, if_neg hzero, if_pos hfit]
    cases s.resolve (value.extractLsb' 0 16) <;> rfl

/-- A record is named only by fields that are in range. -/
theorem State.Names.fits {s : State} {sel : Byte} {value : Word} {h : Handle} {r : Record} (hnames : s.Names sel value h r) :
    sel.toNat ≤ 1 ∧ (sel = 1 → value.toNat ≤ 65535) := by
  rcases hnames with ⟨rfl, -⟩ | ⟨rfl, htop, -⟩
  · exact ⟨by decide, nofun⟩
  · exact ⟨by decide, fun _ => by omega⟩

/-- The override byte of a record block is that of a BOOKED record that has one, else 0 (R16, R200). -/
theorem maskField_receiverOverride (c : Custody) :
    maskField c.receiverOverride =
      match c with
      | .booked _ _ _ (some m) _ => m
      | _ => 0 := by
  rcases c with _ | ⟨_, _, _, _ | _, _⟩ | _ | _ <;> rfl

/-! ## SCAN -/

/-- A SCAN that returned fewer records than the count has met every slot (R208). -/
theorem continueSlot_of_short {count : Nat} {found : List (Nat × Record)} (h : found.length < count) :
    continueSlot count found = 2048 := by
  unfold continueSlot
  split
  · exact if_neg h.ne
  · rfl

/-- A SCAN that returned as many records as the count goes on behind the last of them (R208). -/
theorem continueSlot_of_full {count : Nat} {found : List (Nat × Record)} (h : found.length = count) (hcount : 1 ≤ count) :
    ∃ p, found.getLast? = some p ∧ continueSlot count found = p.1 + 1 := by
  have hne : found ≠ [] := List.ne_nil_of_length_pos (by omega)
  have hlast := List.getLast?_eq_some_getLast hne
  exact ⟨_, hlast, by simp only [continueSlot, hlast, if_pos h]⟩

/-- What passes a test stands in the table's order. -/
theorem Table.pairwise_filter {α : Type} {t : Table α} (hwf : t.wf = true) (test : Nat × α → Bool) :
    (t.filter test).Pairwise fun x y => x.1 < y.1 :=
  (List.pairwise_map.1 ((Table.wf_iff t).1 hwf)).sublist List.filter_sublist

/-- In ascending order, the first `count` are those that lie below the number behind the last of them. -/
theorem mem_take_iff_lt_continueSlot {l : List (Nat × Record)} {count : Nat} (hl : l.Pairwise fun x y => x.1 < y.1)
    (hcount : 1 ≤ count) (p : Nat × Record) :
    p ∈ l.take count ↔ p ∈ l ∧ ((l.take count).length = count → p.1 < continueSlot count (l.take count)) := by
  by_cases hfull : (l.take count).length = count
  · obtain ⟨last, hlast, hnext⟩ := continueSlot_of_full hfull hcount
    have hsplit : l.take count = (l.take count).dropLast ++ [last] :=
      (List.dropLast_append_getLast? last hlast).symm
    have hsorted := hl
    rw [← List.take_append_drop count l, List.pairwise_append] at hsorted
    obtain ⟨htaken, -, hafter⟩ := hsorted
    rw [hsplit, List.pairwise_append] at htaken
    obtain ⟨-, -, hbefore⟩ := htaken
    rw [hnext]
    constructor
    · intro hp
      refine ⟨List.mem_of_mem_take hp, fun _ => ?_⟩
      rw [hsplit] at hp
      rcases List.mem_append.1 hp with hp | hp
      · exact Nat.lt_succ_of_lt (hbefore p hp last List.mem_cons_self)
      · rw [List.mem_singleton.1 hp]
        exact Nat.lt_succ_self _
    · rintro ⟨hp, hlt⟩
      rw [← List.take_append_drop count l] at hp
      refine (List.mem_append.1 hp).resolve_right fun hdrop => ?_
      have habove := hafter last (List.mem_of_getLast? hlast) p hdrop
      have hbelow := hlt hfull
      omega
  · have hall : l.take count = l := List.take_of_length_le (by rw [List.length_take] at hfull; omega)
    rw [hall] at hfull ⊢
    simp [hfull]

section
variable {s : State} {start count : Nat}

/-- A SCAN returns its records in ascending slot order. -/
theorem State.pairwise_scanned (hwf : s.engine.records.wf = true) :
    (s.scanned start count).Pairwise fun x y => x.1 < y.1 :=
  (Table.pairwise_filter hwf _).sublist (List.take_sublist ..)

theorem State.mem_scanned_iff (hwf : s.engine.records.wf = true) (hcount : 1 ≤ count) (n : Nat) (r : Record) :
    (n, r) ∈ s.scanned start count ↔
      s.engine.records.look n = some r ∧ start ≤ n ∧
        ((s.scanned start count).length = count → n < continueSlot count (s.scanned start count)) := by
  rw [State.scanned, mem_take_iff_lt_continueSlot (Table.pairwise_filter hwf _) hcount, List.mem_filter, decide_eq_true_eq,
    Table.mem_iff_look hwf, and_assoc]

theorem State.length_scanned_le : (s.scanned start count).length ≤ count := List.length_take_le ..

end

/-- Settles O50. STATUS is answered in every mode; what a LOOKUP in range finds is `State.sought`, and what a SCAN returns is
`State.scanned`, whose members `State.mem_scanned_iff` tells. -/
theorem statusLookupScan : Obligations.StatusLookupScan := by
  refine ⟨fun s hd f u => ⟨fun hready => exec_answered (run := statusService) rfl hready rfl, fun sel value ht => ?lookup⟩,
    fun s hd start count f u ht hwf => ?scan⟩
  case lookup =>
    have hown : ∀ {w a}, lookupRequest sel value u = (w, a) → _ := exec_host (c := .lookup hd sel value) rfl ht
    refine ⟨fun hbad => hown (lookupRequest_of_range hbad u), fun hsel hvalue hnone => hown ?_, fun h r hfound => hown ?_⟩
    · have hsought : u.sought sel value = none := Option.eq_none_iff_forall_ne_some.2 fun ⟨h, r⟩ hsome =>
        hnone h r ((u.sought_eq_some_iff hsel hvalue h r).1 hsome)
      rw [lookupRequest_of_fit hsel hvalue, hsought]
      rfl
    · obtain ⟨hsel, hvalue⟩ := State.Names.fits hfound
      rw [lookupRequest_of_fit hsel hvalue, (u.sought_eq_some_iff hsel hvalue h r).2 hfound]
      simp only [recordBlock, maskField_receiverOverride]
      rfl
  case scan =>
    have hown : ∀ {w a}, scanRequest start count u = (w, a) → _ := exec_host (c := .scan hd start count) rfl ht
    refine ⟨fun hbad => hown (if_pos (by bv_omega)), fun hstart hcount hmost =>
      ⟨u.scanned start.toNat count.toNat, _, hown (if_neg (by omega)), State.length_scanned_le, State.pairwise_scanned hwf,
        State.mem_scanned_iff hwf hcount, continueSlot_of_short, fun hfull => ?_⟩⟩
    obtain ⟨last, hlast, hnext⟩ := continueSlot_of_full hfull hcount
    rw [hnext]
    exact ⟨last.2, List.mem_of_getLast? hlast⟩

end Sys2Proof.Machine
end

section
/-! SUPPORT. RETIRE, and a FLUSH from its start to its end. -/

namespace Sys2Proof.Machine

/-! ## RETIRE -/

section
variable {s : State} {handle : Half}

theorem retireRequest_stale (hresolve : s.resolve handle = none) : retireRequest handle s = (s, refuse .staleHandle) := by
  simp only [retireRequest, hresolve]

theorem retireRequest_live {h : Handle} {r : Record} (hresolve : s.resolve handle = some (h, r)) :
    retireRequest handle s = (s.retire h r, accept (be16 h.wire ++ [r.custody.state.code])) := by
  simp only [retireRequest, hresolve]

end

/-! ## The end of a FLUSH -/

/-- The reply of a FLUSH leaves the management port, then the replies that waited behind it (R194, R210; log 6). -/
theorem State.endFlush_eq {s : State} {run : FlushRun} (hrun : s.engine.flush = some run) (hport : run.request.port = .host) :
    s.endFlush = s.flushEnded run := by
  simp only [State.endFlush, hrun, State.sendReply_host hport, accept, replyFrames_host hport]
  rfl

/-! ## FLUSH -/

section
variable {s : State} {f : Frame}

theorem flushService_setup (hmode : s.engine.mode = .setup) : flushService f s = (s, some (accept (be16 0))) := by
  simp only [flushService, hmode]

theorem flushService_run_live (hmode : s.engine.mode = .run) (hlive : s.engine.records ≠ []) :
    flushService f s = (s.beginFlush f, none) := by
  simp only [flushService, hmode]
  exact if_neg fun hcount => hlive (State.records_eq_nil_of_liveCount hcount)

/-- A FLUSH of an empty table ends in its own step (log 15). -/
theorem flushService_run_empty (hmode : s.engine.mode = .run) (hempty : s.engine.records = []) (hport : f.port = .host) :
    flushService f s = ((s.beginFlush f).flushEnded ⟨f, 0⟩, none) := by
  have hcount : (s.beginFlush f).liveCount = 0 := congrArg List.length hempty
  have hended : (s.beginFlush f).endFlush = (s.beginFlush f).flushEnded ⟨f, 0⟩ := State.endFlush_eq rfl hport
  simp only [flushService, hmode, hcount, hended, if_true]

end

/-- A request that is handed over and not answered yet. -/
theorem exec_unanswered {s u w : State} {c : Instr} {f : Frame} {run : Frame → State → Served}
    (hexec : exec c s = .next (s.serve c run)) (hready : s.ready c = some (f, u)) (hrun : run f u = (w, none)) :
    exec c s = .next w := by
  rw [hexec, State.serve_ready hready, hrun]

/-! ## The retirements of a FLUSH -/

/-- The entry of the lowest number stands at the head of a table in canonical form. -/
theorem Table.eq_cons_of_least {α : Type} {t : Table α} (hwf : t.wf = true) {n : Nat} {v : α} (hlook : t.look n = some v)
    (hleast : ∀ m, m < n → t.look m = none) : ∃ rest, t = (n, v) :: rest := by
  have hfind := (Table.find?_eq_some_iff hwf (fun _ => true) n v).2
    ⟨hlook, rfl, fun m w hm hw => by rw [hleast m hm] at hw; cases hw⟩
  cases t with
  | nil => cases hlook
  | cons p rest =>
    rw [List.find?_cons_of_pos rfl] at hfind
    exact ⟨rest, by rw [Option.some.inj hfind]⟩

/-- A retirement is no part of what a FLUSH counts. -/
theorem State.retire_flush (s : State) (h : Handle) (r : Record) : (s.retire h r).engine.flush = s.engine.flush :=
  (s.steady_retire (opens := False) h r).flush

/-- The state after one retirement of a FLUSH, before it is asked whether a live record remains (R210). -/
def State.flushRetired (s : State) (slot : Nat) (r : Record) (run : FlushRun) : State :=
  (s.retire (s.handleOf slot) r).modEngine fun e => { e with flush := some run.more }

/-- One retirement of a FLUSH: the live record of the lowest slot, and the end when it was the last. -/
theorem State.flushStep_eq {s : State} {slot : Nat} {r : Record} {run : FlushRun} (hmode : s.engine.mode = .flushing)
    (hwf : s.engine.records.wf = true) (hlook : s.engine.records.look slot = some r)
    (hleast : ∀ m, m < slot → s.engine.records.look m = none) (hrun : s.engine.flush = some run)
    (hport : run.request.port = .host) :
    s.flushStep =
      let v := s.flushRetired slot r run
      if v.liveCount = 0 then v.flushEnded run.more else v := by
  obtain ⟨rest, hrecords⟩ := Table.eq_cons_of_least hwf hlook hleast
  have hcounted : ((s.retire (s.handleOf slot) r).modEngine fun e => { e with flush := e.flush.map FlushRun.more }) =
      s.flushRetired slot r run := by
    simp only [State.flushRetired, State.modEngine, State.retire_flush, hrun, Option.map_some]
  have hended : (s.flushRetired slot r run).endFlush = (s.flushRetired slot r run).flushEnded run.more :=
    State.endFlush_eq rfl hport
  simp only [State.flushStep, hmode, ne_eq, not_true_eq_false, if_false, hrecords, hcounted, hended]

/-- Outside FLUSHING no retirement of a FLUSH is due (log 21). -/
theorem State.flushStep_idle {s : State} (hmode : s.engine.mode ≠ .flushing) : s.flushStep = s := if_pos hmode

/-- Settles O51. The request of a FLUSH came at the management port, so that its reply leaves there when it ends. -/
theorem retireAndFlush : Obligations.RetireAndFlush := by
  refine ⟨fun s hd f u => ⟨fun handle ht => ?retire, fun hready => ?flush⟩, fun s => ⟨fun hmode => ?idle, ?retirement⟩⟩
  case retire =>
    have hown : ∀ {w a}, retireRequest handle u = (w, a) → _ := exec_host (c := .retire hd handle) rfl ht
    exact ⟨fun hstale => hown (retireRequest_stale hstale), fun h r hlive => hown (retireRequest_live hlive)⟩
  case flush =>
    have hport : f.port = .host := by
      obtain rfl := Option.some.inj (State.ready_frame hready)
      rfl
    exact ⟨fun hmode => exec_answered rfl hready (flushService_setup hmode),
      fun hmode hlive => exec_unanswered rfl hready (flushService_run_live hmode hlive),
      fun hmode hempty => exec_unanswered rfl hready (flushService_run_empty hmode hempty hport)⟩
  case idle => exact congrArg Host.Outcome.next (State.flushStep_idle hmode)
  case retirement =>
    exact fun slot r run hmode hwf hlook hleast hrun hport =>
      congrArg Host.Outcome.next (State.flushStep_eq hmode hwf hlook hleast hrun hport)

end Sys2Proof.Machine
end

section
/-! SUPPORT. Notices posted and read. -/

namespace Sys2Proof.Machine

/-! ## Posting -/

/-- A notice posted writes its own queue alone (R212). -/
theorem State.queue_post (s : State) (q q' : QueueId) (n : Notice) :
    (s.post q n).notices.queue q' =
      if q' = q then (s.notices.queue q').post { n with time := s.timer.clock } else s.notices.queue q' :=
  NoticeUnit.queue_modQueue _ _ _ _

/-! ## NOTICE-READ -/

/-- A byte names a notice queue exactly when it is 0 to 3 (R200). -/
theorem QueueId.ofByte_eq_none_iff (b : Byte) : QueueId.ofByte b = none ↔ 3 < b.toNat := by
  unfold QueueId.ofByte
  split_ifs with h0 h1 h2 h3
  · simp [h0]
  · simp [h1]
  · simp [h2]
  · simp [h3]
  · simp only [true_iff]
    bv_omega

theorem noticeReadRequest_of_range {queue most : Byte} (hbad : 3 < queue.toNat ∨ most = 0 ∨ 4 < most.toNat) (s : State) :
    noticeReadRequest queue most s = (s, refuse .badField) := by
  unfold noticeReadRequest
  split
  · rfl
  · next q hq =>
    have hqueue : ¬ 3 < queue.toNat := fun hrange => by
      rw [(QueueId.ofByte_eq_none_iff queue).2 hrange] at hq
      cases hq
    exact if_pos (by bv_omega)

/-- The blocks of the notices that a NOTICE-READ takes, with a free value for each absent bin ID (log 9). -/
def State.noticeBlocks (s : State) (taken : List Notice) : List (List Byte) :=
  taken.mapIdx fun i n => noticeBlock (Config.unstatedBin s.draw i) n

theorem State.length_noticeBlocks (s : State) (taken : List Notice) : (s.noticeBlocks taken).length = taken.length :=
  List.length_mapIdx

theorem State.getElem?_noticeBlocks (s : State) {taken : List Notice} {i : Nat} {n : Notice} (hn : taken[i]? = some n) :
    (s.noticeBlocks taken)[i]? = some (noticeBlock (Config.unstatedBin s.draw i) n) := by
  rw [State.noticeBlocks, List.getElem?_mapIdx, hn, Option.map_some]

/-- A change of a queue is told by what it makes of that queue. -/
theorem NoticeUnit.modQueue_congr (u : NoticeUnit) (q : QueueId) {f g : NoticeQueue → NoticeQueue}
    (h : f (u.queue q) = g (u.queue q)) : u.modQueue q f = u.modQueue q g := by
  cases q <;> simp only [NoticeUnit.modQueue, NoticeUnit.queue] at h ⊢ <;> rw [h]

theorem noticeReadRequest_of_fit {queue most : Byte} {q : QueueId} (hq : QueueId.ofByte queue = some q)
    (hfirst : 1 ≤ most.toNat) (hlast : most.toNat ≤ 4) (s : State) :
    noticeReadRequest queue most s =
      let old := s.notices.queue q
      let out := old.items.take most.toNat
      ({ s with notices := s.notices.modQueue q fun _ => { old with items := old.items.drop most.toNat } },
        ⟨.ok, [byteOf out.length, byteOf (old.items.length - out.length), if old.dropped then 1 else 0] ::
          s.noticeBlocks out⟩) := by
  extract_lets old out
  have hleft : old.items.length - out.length = (old.items.drop most.toNat).length := by
    simp only [out, List.length_drop, List.length_take]
    omega
  have hwrites : (s.notices.modQueue q fun _ => { old with items := old.items.drop most.toNat }) =
      s.notices.modQueue q fun nq => { nq with items := old.items.drop most.toNat } :=
    NoticeUnit.modQueue_congr _ _ rfl
  have hrange : ¬ (most.toNat < 1 ∨ most.toNat > 4) := by omega
  simp only [noticeReadRequest, hq, if_neg hrange, hleft, hwrites, ← boolByte_eq]
  rfl

/-- Settles O53. A change of one queue leaves the others (`NoticeUnit.queue_modQueue`); the blocks answered are those of the
notices taken, in their order. -/
theorem noticesPostedAndRead : Obligations.NoticesPostedAndRead := by
  refine ⟨fun s q n => ⟨rfl, ?posted, fun q' hq => ?others, ?frame⟩, fun s hd queue most f u ht => ?read⟩
  case posted => exact (s.queue_post q q n).trans (if_pos rfl)
  case others => exact (s.queue_post q q' n).trans (if_neg hq)
  case frame => cases q <;> rfl
  case read =>
    have hown : ∀ {w a}, noticeReadRequest queue most u = (w, a) → _ := exec_host (c := .noticeRead hd queue most) rfl ht
    refine ⟨fun hbad => hown (noticeReadRequest_of_range hbad u), fun q hq hfirst hlast => ?_⟩
    intro old out
    refine ⟨_, u.noticeBlocks out, hown (noticeReadRequest_of_fit hq hfirst hlast u), rfl, u.length_noticeBlocks out,
      fun i n hn => ⟨be32 ((n.bin.map wordOf).getD (Config.unstatedBin u.draw i)), rfl, fun b hb => ?_, ?_⟩⟩
    · rw [hb]
      rfl
    · exact u.getElem?_noticeBlocks hn

end Sys2Proof.Machine
end

section
/-! SUPPORT. The alert encoder: its pending set bit by bit, and the alert requests. -/

namespace Sys2Proof.Machine

/-! ## Flag bytes -/

/-- A flag byte has each of its flags in the flag's place, and no other bit on (R201). -/
theorem getLsbD_flagByte (flags : List Bool) (i : Nat) :
    (flagByte flags).getLsbD i = (decide (i < 8) && flags.getD i false) := by
  induction flags generalizing i with
  | nil => simp [flagByte]
  | cons b t ih =>
    have hflag : (if b then 1 else 0 : Byte).getLsbD i = (decide (i = 0) && b) := by
      cases b <;> simp
    rw [flagByte, BitVec.getLsbD_or, BitVec.getLsbD_shiftLeft, ih, hflag]
    cases i with
    | zero => simp
    | succ i =>
      by_cases hi : i + 1 < 8
      · simp [hi, Nat.lt_of_succ_lt hi]
      · simp [hi]

/-! ## Sources that are pending and enabled -/

/-- Whether an alert source is pending, from priority 0: LINK, THERMAL, TIMING, CUSTODY, RULE, CAPACITY (R214). -/
def NoticeUnit.sourcePending (x : NoticeUnit) : Nat → Bool
  | 0 => x.linkEdge.pending
  | 1 => !x.thermal.items.isEmpty
  | 2 => !x.timing.items.isEmpty
  | 3 => !x.custody.items.isEmpty
  | 4 => !x.rule.items.isEmpty
  | 5 => x.capacityEdge.pending
  | _ => false

/-- An alert source is both pending and enabled (R214). -/
def NoticeUnit.Alerting (x : NoticeUnit) (i : Nat) : Prop := x.sourcePending i = true ∧ x.enabled.getLsbD i = true

section
variable (x : NoticeUnit)

theorem NoticeUnit.getLsbD_pendingSet (i : Nat) : x.pendingSet.getLsbD i = x.sourcePending i := by
  rw [NoticeUnit.pendingSet, getLsbD_flagByte]
  match i with
  | 0 | 1 | 2 | 3 | 4 | 5 => rfl
  | i + 6 => simp [NoticeUnit.sourcePending]

theorem NoticeUnit.getLsbD_pendingSet_and_enabled (i : Nat) :
    (x.pendingSet &&& x.enabled).getLsbD i = true ↔ x.Alerting i := by
  rw [BitVec.getLsbD_and, Bool.and_eq_true, x.getLsbD_pendingSet]
  rfl

/-- There are six alert sources (R214). -/
theorem NoticeUnit.Alerting.lt {x : NoticeUnit} {i : Nat} (h : x.Alerting i) : i < 6 := by
  match i with
  | 0 | 1 | 2 | 3 | 4 | 5 => decide
  | i + 6 => cases h.1

theorem NoticeUnit.line_iff : x.line = true ↔ ∃ i, x.Alerting i := by
  simp only [NoticeUnit.line, bne_iff_ne, ← x.getLsbD_pendingSet_and_enabled]
  constructor
  · intro hne
    by_contra hnone
    exact hne (BitVec.eq_of_getLsbD_eq fun i _ => by simpa using fun h => hnone ⟨i, h⟩)
  · rintro ⟨i, hi⟩ hzero
    rw [hzero] at hi
    simp at hi

theorem NoticeUnit.highest_of_none (h : ∀ i, ¬ x.Alerting i) : x.highest = 255 := by
  have hfind : [0, 1, 2, 3, 4, 5].find? (fun i => (x.pendingSet &&& x.enabled).getLsbD i) = none :=
    List.find?_eq_none.2 fun i _ hi => h i ((x.getLsbD_pendingSet_and_enabled i).1 hi)
  simp only [NoticeUnit.highest, hfind]

theorem NoticeUnit.highest_of_first {i : Nat} (hi : x.Alerting i) (hfirst : ∀ j, j < i → ¬ x.Alerting j) :
    x.highest = byteOf i := by
  have hfind : (List.range 6).find? (fun i => (x.pendingSet &&& x.enabled).getLsbD i) = some i :=
    List.find?_range_eq_some.2 ⟨(x.getLsbD_pendingSet_and_enabled i).2 hi, List.mem_range.2 hi.lt, fun j hj => by
      rw [Bool.not_eq_true', Bool.eq_false_iff]
      exact mt (x.getLsbD_pendingSet_and_enabled j).1 (hfirst j hj)⟩
  have hsources : [0, 1, 2, 3, 4, 5] = List.range 6 := rfl
  simp only [NoticeUnit.highest, hsources, hfind]

end

/-! ## The requests -/

/-- A set has bit 6 or 7 on exactly when it is above 63 (R215). -/
theorem sourcesFit_eq_false_iff (b : Byte) : sourcesFit b = false ↔ 63 < b.toNat := by
  rw [sourcesFit, decide_eq_false_iff_not, not_lt, Nat.lt_iff_add_one_le]

/-- A request with a set of alert sources, and what it does when the set fits (R215). -/
theorem exec_withSources {s u v : State} {c : Instr} {f : Frame} {own : State → State × Answer} {b : Byte} {a : Answer}
    (hexec : exec c s = .next (s.serve c (hostService own))) (ht : s.hostTakes c f u)
    (hown : own u = if !sourcesFit b then (u, refuse .badField) else (v, a)) :
    exec c s = .next (if 63 < b.toNat then u.respond f ⟨.badField, [[]]⟩ else v.respond f a) := by
  rw [exec_host hexec ht hown]
  rcases hfit : sourcesFit b with _ | _
  · rw [if_pos ((sourcesFit_eq_false_iff b).1 hfit)]
    rfl
  · rw [if_neg fun hbad => by rw [(sourcesFit_eq_false_iff b).2 hbad] at hfit; cases hfit]
    rfl

/-- The flags of the sources in a set are cleared, the others stay as they are (R215). -/
theorem NoticeUnit.clearAlerts_eq (u : NoticeUnit) (b : Byte) :
    let drop := fun (i : Nat) (q : NoticeQueue) => ({ q with dropped := q.dropped && !b.getLsbD i } : NoticeQueue)
    let edge := fun (i : Nat) (e : Edge) => (⟨e.pending && !b.getLsbD i, e.overrun && !b.getLsbD i⟩ : Edge)
    u.clearAlerts b =
      { u with
        linkEdge := edge 0 u.linkEdge
        thermal := drop 1 u.thermal
        timing := drop 2 u.timing
        custody := drop 3 u.custody
        rule := drop 4 u.rule
        capacityEdge := edge 5 u.capacityEdge } := by
  have hdrop : ∀ (c : Bool) (q : NoticeQueue),
      (if c then { q with dropped := false } else q) = { q with dropped := q.dropped && !c } := fun c q => by
    cases c <;> simp
  have hedge : ∀ (c : Bool) (e : Edge), (if c then ⟨false, false⟩ else e) = (⟨e.pending && !c, e.overrun && !c⟩ : Edge) :=
    fun c e => by cases c <;> simp
  simp only [NoticeUnit.clearAlerts, hdrop, hedge]

/-- Settles O54. The line and the first source are read off the bits of the pending and the enabled set
(`NoticeUnit.getLsbD_pendingSet_and_enabled`); a set that fits replaces or clears. -/
theorem alertRequests : Obligations.AlertRequests := by
  refine fun s hd f u => ⟨s.notices.line_iff, fun ht => ⟨fun hnone => ?none, fun i hi hfirst => ?first⟩,
    fun enabled ht => exec_withSources rfl ht rfl, fun b ht => ?clear⟩
  case none =>
    rw [← u.notices.highest_of_none hnone]
    exact exec_host rfl ht rfl
  case first =>
    rw [← u.notices.highest_of_first hi hfirst]
    exact exec_host rfl ht rfl
  case clear =>
    intro drop edge x
    rw [show x = u.notices.clearAlerts b from (u.notices.clearAlerts_eq b).symm]
    exact exec_withSources rfl ht rfl

end Sys2Proof.Machine
end

section
/-! SUPPORT. The zone counters: what an event adds, and the counter requests. -/

namespace Sys2Proof.Machine

/-! ## A counter event -/

/-- What a counter slot adds to a zone's counter for an event (R216). -/
def CounterSlot.gain (c : CounterSlot) (e : EventKind) (amount : Nat) : Word :=
  if c.events.getLsbD e.bit then wordOf (c.amount e amount) else 0

/-- The counters are apart: one number for each zone and slot (R216). -/
theorem counterNumber_inj {z zone i slot : Nat} (hi : i < 4) (hslot : slot < 4) :
    4 * z + i = 4 * zone + slot ↔ z = zone ∧ i = slot := by
  omega

/-- An event reaches a zone's counter of one slot, and leaves the other counters and the slots. -/
theorem NoticeUnit.countSlot_eq (u : NoticeUnit) (e : EventKind) (zone amount slot : Nat) :
    u.countSlot e zone amount slot = { u with counters := (u.countSlot e zone amount slot).counters } := by
  unfold NoticeUnit.countSlot
  dsimp only
  split <;> rfl

theorem NoticeUnit.counter_countSlot (u : NoticeUnit) (e : EventKind) (zone amount : Nat) {z i slot : Nat} (hi : i < 4)
    (hslot : slot < 4) :
    (u.countSlot e zone amount slot).counter z i =
      u.counter z i + if z = zone ∧ i = slot then (u.slots.lookD .reset slot).gain e amount else 0 := by
  unfold NoticeUnit.countSlot CounterSlot.gain
  dsimp only
  split
  · simp only [NoticeUnit.counter, Table.lookD_putD, counterNumber_inj hi hslot]
    split
    · next h => rw [h.1, h.2]
    · simp
  · simp

/-- An event counted in slots one after the other, each once. -/
theorem NoticeUnit.foldl_countSlot (u : NoticeUnit) (e : EventKind) (zone amount : Nat) {l : List Nat} (hl : l.Nodup)
    (hrange : ∀ slot ∈ l, slot < 4) {i : Nat} (hi : i < 4) (z : Nat) :
    (l.foldl (fun u slot => u.countSlot e zone amount slot) u).counter z i =
      u.counter z i + if z = zone ∧ i ∈ l then (u.slots.lookD .reset i).gain e amount else 0 := by
  induction l generalizing u with
  | nil => simp
  | cons slot l ih =>
    obtain ⟨hnew, hl⟩ := List.nodup_cons.1 hl
    obtain ⟨hslot, hrange⟩ := List.forall_mem_cons.1 hrange
    have hslots : (u.countSlot e zone amount slot).slots = u.slots := by rw [u.countSlot_eq]
    rw [List.foldl_cons, ih _ hl hrange, u.counter_countSlot e zone amount hi hslot, hslots]
    by_cases heq : i = slot
    · subst heq
      simp [hnew]
    · simp [heq]

theorem NoticeUnit.foldl_countSlot_eq (u : NoticeUnit) (e : EventKind) (zone amount : Nat) (l : List Nat) :
    ∃ counters, l.foldl (fun u slot => u.countSlot e zone amount slot) u = { u with counters := counters } := by
  induction l generalizing u with
  | nil => exact ⟨_, rfl⟩
  | cons slot l ih =>
    obtain ⟨counters, hrest⟩ := ih (u.countSlot e zone amount slot)
    rw [u.countSlot_eq] at hrest
    exact ⟨counters, by rw [List.foldl_cons, u.countSlot_eq, hrest]⟩

/-- A counter event changes the counters alone (R216). -/
theorem State.countEvent_eq (s : State) (e : EventKind) (zone amount : Nat) :
    s.countEvent e zone amount =
      { s with notices := { s.notices with counters := (s.countEvent e zone amount).notices.counters } } := by
  obtain ⟨counters, hcounted⟩ := s.notices.foldl_countSlot_eq e zone amount [0, 1, 2, 3]
  simp only [State.countEvent, State.modNotices, hcounted]

theorem State.counter_countEvent (s : State) (e : EventKind) (zone amount z : Nat) {i : Nat} (hi : i < 4) :
    (s.countEvent e zone amount).notices.counter z i =
      s.notices.counter z i + if z = zone then (s.notices.slots.lookD .reset i).gain e amount else 0 := by
  have hmem : i ∈ [0, 1, 2, 3] := List.mem_range.2 hi
  have hcounted := s.notices.foldl_countSlot e zone amount (l := [0, 1, 2, 3]) (by decide) (by decide) hi z
  simp only [hmem, and_true] at hcounted
  exact hcounted

/-- The gain of a slot, by its event set and its unit (R216). -/
theorem CounterSlot.gain_eq (c : CounterSlot) (e : EventKind) (amount : Nat) :
    c.gain e amount =
      if c.events.getLsbD e.bit = true then
        if c.exposure = false then 1 else if e = .accrual then wordOf amount else 0
      else 0 := by
  unfold CounterSlot.gain CounterSlot.amount
  cases c.exposure
  · rfl
  · simp only [if_true, apply_ite wordOf]
    rfl

/-! ## The counter requests -/

/-- A test of the number alone keeps or removes a number's entry. -/
theorem Table.look_filter {α : Type} (t : Table α) (test : Nat → Bool) (n : Nat) :
    Table.look (t.filter fun p => test p.1) n = if test n then t.look n else none := by
  induction t with
  | nil => simp
  | cons p t ih =>
    obtain ⟨k, v⟩ := p
    rw [List.filter_cons]
    by_cases hkn : k = n
    · subst hkn
      cases htest : test k <;> simp [Table.look, ih, htest]
    · split <;> simp [Table.look, hkn, ih]

/-- The counters after a COUNTER-CLEAR of a zone (R217). -/
theorem NoticeUnit.counter_filter (u : NoticeUnit) (zone z : Nat) {i : Nat} (hi : i < 4) :
    NoticeUnit.counter { u with counters := u.counters.filter fun p => p.1 / 4 ≠ zone } z i =
      if z = zone then 0 else u.counter z i := by
  have hzone : (4 * z + i) / 4 = z := by omega
  have hlook := Table.look_filter u.counters (fun n => decide (n / 4 ≠ zone)) (4 * z + i)
  rw [hzone] at hlook
  simp only [NoticeUnit.counter, Table.lookD, hlook]
  by_cases hz : z = zone <;> simp [hz]

section
variable {zone : Byte} (s : State)

theorem counterClearRequest_of_range (hrange : 15 < zone.toNat) (hall : zone ≠ 255) :
    counterClearRequest zone s = (s, refuse .badField) := by
  rw [counterClearRequest, if_neg hall, if_pos hrange]

theorem counterClearRequest_all :
    counterClearRequest 255 s = (s.modNotices fun u => { u with counters := [] }, accept [255]) := if_pos rfl

theorem counterClearRequest_zone (hrange : zone.toNat ≤ 15) :
    counterClearRequest zone s =
      (s.modNotices fun u => { u with counters := u.counters.filter fun p => p.1 / 4 ≠ zone.toNat }, accept [zone]) := by
  have hall : zone ≠ 255 := by bv_omega
  rw [counterClearRequest, if_neg hall, if_neg (not_lt.2 hrange)]

end

/-- Settles O55. A counter event is counted slot by slot (`NoticeUnit.foldl_countSlot`); each request past its range writes
the slots or the counters alone. -/
theorem countersCountAndClear : Obligations.CountersCountAndClear := by
  refine ⟨fun s e zone amount => ⟨s.countEvent_eq e zone amount, fun z i hi => ?counted⟩,
    fun s hd f u => ⟨fun i events unit ht => ?mask, fun zone ht => ?read, fun zone ht =>
      ⟨fun hrange hall => ?refused, ?clear⟩⟩⟩
  case counted =>
    rw [s.counter_countEvent e zone amount z hi, CounterSlot.gain_eq]
    dsimp only
    rw [ite_and]
  case mask =>
    split
    · next hbad => exact exec_host (own := counterMaskRequest i events unit) rfl ht (if_pos hbad)
    · next hgood => exact exec_host (own := counterMaskRequest i events unit) rfl ht (if_neg hgood)
  case read =>
    split
    · next hbad => exact exec_host (own := counterReadRequest zone) rfl ht (if_pos hbad)
    · next hgood => exact exec_host (own := counterReadRequest zone) rfl ht (if_neg hgood)
  case refused => exact exec_host rfl ht (counterClearRequest_of_range u hrange hall)
  case clear =>
    intro hzone
    by_cases hall : zone = 255
    · subst hall
      exact ⟨_, exec_host rfl ht (counterClearRequest_all u), rfl, fun z i _ => (if_pos (.inl rfl)).symm⟩
    · have hrange := hzone.resolve_right hall
      refine ⟨_, exec_host rfl ht (counterClearRequest_zone u hrange), rfl, fun z i hi => ?_⟩
      simp only [hall, false_or]
      exact u.notices.counter_filter zone.toNat z hi

end Sys2Proof.Machine
end
